-- ==== Sys2Proof/Word.lean ====
section
/-! DEFINITION. The word types of the station: bytes of the two serial lines and the sixteen station numbers. -/

namespace Sys2Proof

/-- One byte of a terrace frame or of a panel message (R3, R183). -/
abbrev Byte := BitVec 8

/-- A station number, 0 to 15 (R45). -/
abbrev Station := Fin 16

end Sys2Proof
end

