-- ==== Sys2Proof/Syntax.lean ====
section
/-! DEFINITION. The commands: one constructor for each row of spec/opcode_table.json, with the operands the rules give it. -/

namespace Sys2Proof

/-- The supply or the extract side: a fan (R68) or a filter (R151). -/
inductive Side where
  | supply
  | extract
deriving DecidableEq, Repr

/-- What one analog channel's conversion yields (R176): tenths of a degree or whole percent, or an open or short indication. -/
inductive Conversion where
  | reading (value : Int)
  | openInput
  | shortInput
deriving DecidableEq, Repr

/-- The level of a serial line in one bit time. On the terrace line a 0 bit is dominant and a 1 bit recessive (R3); on the
panel line the same two are low and high (R183). -/
inductive Level where
  | dominant
  | recessive
deriving DecidableEq, Repr

/-- The levels at the middles of the ten bit times of a character: start bit, eight data bits, stop bit (R3). -/
abbrev CharLevels := Vector Level 10

/-- One character as a receiver forms it (R3, R183): the byte, and whether its stop bit was recessive, on the panel line
high. -/
structure RxChar where
  byte : Byte
  stopGood : Bool
deriving DecidableEq, Repr

/-- The eight strap inputs at a sample (R44, R181): the levels they are driven to, and a 1 for each input that nothing
drives, bits as byte 2 of the snapshot (R192). -/
structure StrapInputs where
  levels : Byte
  floating : Byte
deriving DecidableEq, Repr

/-- The twelve payload bytes of a STATUS frame (R190). -/
structure StatusBytes where
  b0 : Byte
  b1 : Byte
  b2 : Byte
  b3 : Byte
  b4 : Byte
  b5 : Byte
  b6 : Byte
  b7 : Byte
  b8 : Byte
  b9 : Byte
  b10 : Byte
  b11 : Byte
deriving DecidableEq, Repr

/-- The fifteen bytes of a terms set (R189). -/
structure TermsBytes where
  b0 : Byte
  b1 : Byte
  b2 : Byte
  b3 : Byte
  b4 : Byte
  b5 : Byte
  b6 : Byte
  b7 : Byte
  b8 : Byte
  b9 : Byte
  b10 : Byte
  b11 : Byte
  b12 : Byte
  b13 : Byte
  b14 : Byte
deriving DecidableEq, Repr

/-- The four bytes of a schedule entry (R191). -/
structure EntryBytes where
  b0 : Byte
  b1 : Byte
  b2 : Byte
  b3 : Byte
deriving DecidableEq, Repr

/-- The commands, in the order of the table. A docstring names the operands; the rule is the row's. -/
inductive Instr where
  /-- R43 -/
  | powerOn
  /-- R182 -/
  | resetAsserted
  /-- R44, R181 -/
  | strapSample (inputs : StrapInputs)
  /-- R4 -/
  | lineIdle
  /-- R11 -/
  | slotBegins
  /-- R13 -/
  | lostTheLine
  /-- R15 -/
  | driverFault
  /-- R14 -/
  | ownFrameComplete
  /-- R3, R7: what the receiver sampled from the first change to dominant of the broken frame up to the error, ten levels
  for each change that began a character or was a glitch; where the characters stop short of the frame's end, the error is
  the gap that follows them (a fragment) -/
  | receiveError (chars : List CharLevels)
  /-- R20 -/
  | lineStuck
  /-- R35 -/
  | statusTaken (sender : Station) (payload : StatusBytes)
  /-- R121 -/
  | takeTaken (sender : Station) (serial : Byte)
  /-- R123 -/
  | giveTaken (sender : Station) (serial : Byte)
  /-- R50 -/
  | termsQueryTaken (sender : Station)
  /-- R52 -/
  | termsSetTaken (sender : Station) (payload : TermsBytes)
  /-- R24: the sixteen payload bytes -/
  | testTaken (sender : Station) (payload : Vector Byte 16)
  /-- R25 -/
  | roundTick
  /-- R38: the station whose record departs -/
  | peerDeparture (station : Station)
  /-- R47 -/
  | listenEnd
  /-- R120 -/
  | rebuildEnd
  /-- R118 -/
  | confirmEnd
  /-- R129: the station whose SHADOW entry is removed -/
  | shadowRemoval (station : Station)
  /-- R126: the station whose granted entry expires -/
  | holdExpiry (station : Station)
  /-- R86 -/
  | backoffEnd
  /-- R59 -/
  | boostExpires
  /-- R70: the fan, and the time of the falling edge in µs of the local oscillator -/
  | tachEdge (fan : Side) (time : Nat)
  /-- R72 -/
  | kickEnds (fan : Side)
  /-- R73 -/
  | speedLoopStep (fan : Side)
  /-- R73 -/
  | stallWindowExpires (fan : Side)
  /-- R75 -/
  | fanRestartWaitEnds (fan : Side)
  /-- R77 -/
  | runningTimeReached (fan : Side)
  /-- R175: the conversions of T_o, T_s, T_e, T_x and H_e -/
  | scan (tO tS tE tX hE : Conversion)
  /-- R99, R101 -/
  | stepTimerExpires
  /-- R98, R102 -/
  | clearTimerExpires
  /-- R105 -/
  | stopTimerExpires
  /-- R106 -/
  | thawTimerExpires
  /-- R109 -/
  | reTakeWaitEnds
  /-- R141 -/
  | humidityMinute
  /-- R145 -/
  | restEnd
  /-- R144 -/
  | boostHourEnd
  /-- R153 -/
  | accountingMinute
  /-- R155 -/
  | referenceLearnt (filter : Side)
  /-- R156 -/
  | hourMark
  /-- R161 -/
  | trimPeriodEnd
  /-- R163 -/
  | nvWriteEnds
  /-- R164 -/
  | nvRestore
  /-- R172 -/
  | minuteEntered
  /-- R169 -/
  | slewSecond
  /-- R180 -/
  | blinkToggle
  /-- R183, R184: the characters received since the marker was awaited -/
  | panelAssemblyTimeout (chars : List RxChar)
  /-- R183, R184: the characters of the request, marker included -/
  | badFormat (chars : List RxChar)
  /-- R185 -/
  | replySent
  /-- R192 -/
  | statusRead
  /-- R58: mode code and minutes -/
  | modeSet (mode minutes : Byte)
  /-- R170 -/
  | timeSet (time : BitVec 24)
  /-- R171 -/
  | scheduleWrite (index : Byte) (entry : EntryBytes)
  /-- R171 -/
  | scheduleRead (index : Byte)
  /-- R158 -/
  | filterAck (filter : Byte)
  /-- R159 -/
  | filterReset (filter : Byte)
  /-- R78 -/
  | fanClear (fan : Byte)
  /-- R41 -/
  | peerRead (station : Byte)
  /-- R137 -/
  | queueRead
  /-- R53 -/
  | termsSet (payload : TermsBytes)
  /-- R23 -/
  | lineTest (seed count : Byte)
  /-- R24 -/
  | tallyRead
  /-- R188 -/
  | eventsClear (mask : BitVec 16)
  /-- R187 -/
  | restart
  /-- R187 -/
  | restartWaitExpires
  /-- R4: whether the start bit is still dominant at its middle (R3; if not, the change is a glitch) -/
  | lineBusy (startHeld : Bool)
  /-- R163 -/
  | powerLoss
deriving DecidableEq, Repr

end Sys2Proof
end

