-- ==== Sys2Proof/Decode.lean ====
section
/-! DEFINITION. The command a word spells by the table's bits. No row of spec/opcode_table.json gives bits ("fields" is
empty in all seventy), so no word spells a command (log 22). -/

namespace Sys2Proof

/-- The command that the word spells, for the rows that give bits: there is none. -/
def decodeTableWord (_nbits _w : Nat) : Option Instr := none

end Sys2Proof
end

