-- ==== Sys2Proof/Config.lean ====
section
/-! DEFINITION. What one part fixes and the manual leaves open: the step of time an idle step passes, and the free value of
a torn check byte. -/

namespace Sys2Proof

/-- How many idle steps make one second of elapsed time. DESIGN CHOICE, log 1: one advance of the sub-second count (R166). -/
def Config.ticksPerSecond : Nat := 64

/-- The check byte that the n-th cut-off write leaves in the nonvolatile record. R163 says that it is bad and not which
value it has: a free value, log 8. -/
opaque Config.tornCheck : Nat → Byte

end Sys2Proof
end

