-- ==== Sys2Proof/Machine/State.lean ====
section
/-! DEFINITION. The state of the station as plain data, block by block, and the state right after a power-on start begins. -/

namespace Sys2Proof.Machine

/-- A timer of elapsed time: the ticks of 1/64 s that remain, or none while it is stopped (log 1). -/
abbrev Timer := Option Nat

/-- Whether the station runs, is held by its reset input (R182), or has no power (R163). -/
inductive Power where
  | running
  | held
  | off
deriving DecidableEq, Repr

/-- R43. -/
inductive Membership where
  | straps
  | listen
  | joined
deriving DecidableEq, Repr

/-- R20, R22. -/
inductive LineCondition where
  | clear
  | doubt
  | stuck
  | muted
deriving DecidableEq, Repr

/-- R22. -/
inductive MutedCause where
  | none
  | driverFault
  | duplicate
deriving DecidableEq, Repr

/-- The effective modes (R27, R61). -/
inductive Mode where
  | off
  | frostStop
  | fanFault
  | boost
  | humid
  | normal
  | night
  | away
deriving DecidableEq, Repr

/-- The base modes (R57). -/
inductive BaseMode where
  | normal
  | night
  | away
  | off
deriving DecidableEq, Repr

/-- The modes a schedule entry may hold (R57, R171). -/
inductive SchedMode where
  | normal
  | night
  | away
deriving DecidableEq, Repr

/-- R93. -/
inductive FrostStage where
  | clear
  | watch
  | reduce
  | preheat
  | stop
deriving DecidableEq, Repr

/-- R115. -/
inductive CopyState where
  | rebuild
  | synced
  | unsure
deriving DecidableEq, Repr

/-- The seventeen STATUS fields of R27. -/
structure Report where
  mode : Mode
  stage : FrostStage
  reduction10 : Nat
  claim : Nat
  lineNotClear : Bool
  backoff : Bool
  curbed : Bool
  filterDue : Bool
  skew : Bool
  entryPresent : Bool
  entryGranted : Bool
  copyState : CopyState
  entrySerial : Byte
  n : Byte
  filterLife : Nat
  termsVersion : Byte
  time : Nat
deriving DecidableEq, Repr

/-- A terms set (R48). -/
structure Terms where
  version : Byte
  stackLimit : Nat
  concurrency : Nat
  holdLimit : Nat
  frostBase : Int
  imbalance : Nat
  humidUpper : Nat
  humidLower : Nat
  filterLife : Nat
  ahead : Nat
  behind : Nat
  errorThreshold : Nat
  trimFloor : Int
deriving DecidableEq, Repr

/-- The built-in terms (R48). -/
def Terms.defaults : Terms :=
  { version := 0, stackLimit := 1200, concurrency := 2, holdLimit := 600, frostBase := 10, imbalance := 10,
    humidUpper := 70, humidLower := 60, filterLife := 600, ahead := 8, behind := 8, errorThreshold := 8, trimFloor := 0 }

/-! ### Line interface (Chapter 1) -/

/-- What an own frame carries, built when its sending begins (R12). -/
inductive Content where
  | give (serial : Byte)
  | take (serial : Byte)
  | status (report : Report)
  | termsQuery
  | termsSet (terms : Terms)
  | test (seed : Byte)
deriving DecidableEq, Repr

/-- The frame being sent: its content, its bytes from header to check byte, and, for TEST, whether its completion counts
in the present test run (R23). -/
structure Sending where
  content : Content
  bytes : List Byte
  counted : Bool
deriving DecidableEq, Repr

/-- A test run (R23). -/
structure TestRun where
  seed : Byte
  remaining : Nat
deriving DecidableEq, Repr

/-- The test tally (R24). -/
structure Tally where
  sender : Option Station
  received : Nat
  mismatched : Nat
deriving DecidableEq, Repr

structure Line where
  condition : LineCondition
  cause : MutedCause
  errors : Nat
  lastSender : Station
  collisions : Nat
  receiverOn : Bool
  receiverReady : Bool
  pullUp : Bool
  idle : Bool
  /-- The bit times since slot 0 of the present cycle began, 0 to 127, two to a slot; none while the count is stopped (R9). -/
  slotTime : Option Nat
  sending : Option Sending
  run : Option TestRun
  tally : Tally
deriving DecidableEq, Repr

/-- A pending TERMS frame is a query or a set (R16). -/
inductive TermsKind where
  | query
  | set
deriving DecidableEq, Repr

/-- The outgoing set: at most one pending frame of each kind (R16). -/
structure Outgoing where
  give : Bool
  take : Bool
  status : Bool
  test : Bool
  terms : Option TermsKind
deriving DecidableEq, Repr

/-! ### Peer table (Chapter 2) -/

/-- R34. -/
inductive Presence where
  | absent
  | present
  | stale
deriving DecidableEq, Repr

structure PeerRecord where
  presence : Presence
  age : Nat
  fields : Option Report
deriving DecidableEq, Repr

def PeerRecord.cleared : PeerRecord := { presence := .absent, age := 0, fields := none }

structure Peers where
  roundTimer : Timer
  ticks : Nat
  records : Vector PeerRecord 16
  ownReport : Option Report
  unusable : Nat
deriving DecidableEq, Repr

/-! ### Join unit (Chapter 3) -/

/-- The latched straps (R45). -/
structure Straps where
  number : Station
  pullUp : Bool
  override : Bool
  fanClass : Fin 4
deriving DecidableEq, Repr

/-- Where the terms in force come from (R54). -/
inductive TermsSource where
  | defaults
  | panel
  | heard (sender : Station)
deriving DecidableEq, Repr

/-- The best heard set (R52). -/
structure BestHeard where
  terms : Terms
  sender : Station
  conflict : Bool
deriving DecidableEq, Repr

structure Join where
  membership : Membership
  samples : List Byte
  straps : Option Straps
  terms : Terms
  source : TermsSource
  panelSet : Option Terms
  best : Option BestHeard
  querySent : Bool
  skew : Bool
  listenTicks : Nat
deriving DecidableEq, Repr

/-! ### Airflow planner and fan drive (Chapter 4) -/

/-- The mode record (R57). The boost holds its remaining time in ticks. -/
structure ModeRecord where
  held : Option BaseMode
  boost : Option Nat
  scheduled : Option SchedMode
deriving DecidableEq, Repr

/-- The results of the latest composition (R62, R66). D and C are the stack share unit's, the target speeds the fans'. -/
structure Plan where
  effective : Mode
  supply : Nat
  extract : Nat
  curbed : Bool
deriving DecidableEq, Repr

/-- R68. -/
inductive FanState where
  | stopped
  | starting
  | running
  | stalled
  | failed
deriving DecidableEq, Repr

/-- A fan record (R68), with the time of the last accepted edge (R70) and the 250 ms of the speed loop (R73). -/
structure Fan where
  state : FanState
  duty : Nat
  targetFlow : Nat
  targetSpeed : Nat
  measured : Nat
  attempts : Nat
  stateTimer : Timer
  stallWindow : Timer
  edgeSeen : Bool
  lastEdge : Option Nat
  runTime : Nat
  loopTimer : Timer
deriving DecidableEq, Repr

/-! ### Stack share unit (Chapter 5) -/

/-- R80. -/
structure Stack where
  demand : Nat
  cap : Nat
  claim : Nat
  backoff : Nat
deriving DecidableEq, Repr

/-! ### Frost guard (Chapter 6) -/

/-- R93. -/
structure Frost where
  stage : FrostStage
  reduction : Nat
  blind : Bool
  tLim : Int
  stepTimer : Timer
  clearTimer : Timer
  stopTimer : Timer
  thawTimer : Timer
  preheatOn : Nat
  reTake : Timer
  preheater : Bool
deriving DecidableEq, Repr

/-! ### Preheat queue (Chapter 7) -/

/-- A queue entry (R115). A SHADOW entry holds the round tick at which it became SHADOW; the hold elapsed time is in ticks. -/
structure Entry where
  station : Station
  serial : Byte
  shadow : Option Nat
  hold : Nat
deriving DecidableEq, Repr

/-- The queue copy, its counter, its state and its counts (R115). -/
structure Queue where
  entries : List Entry
  n : Byte
  nSet : Bool
  state : CopyState
  rebuild : Nat
  confirm : Nat
  stale : Nat
  late : Nat
deriving DecidableEq, Repr

/-- The station's own requests (R115), and the eligibility as the Frost Guard was last told it (R135). -/
structure OwnPlace where
  outstanding : Bool
  leaving : Option Byte
  eligible : Bool
deriving DecidableEq, Repr

/-! ### Humidity monitor (Chapter 8) -/

/-- R139. -/
inductive HumidState where
  | idle
  | boost
  | rest
deriving DecidableEq, Repr

structure Humid where
  sum : Nat
  count : Nat
  ring : List Nat
  state : HumidState
  boostMinutes : Nat
  restMinutes : Nat
  frostStop : Bool
deriving DecidableEq, Repr

/-! ### Filter and balance unit (Chapter 9) -/

/-- R152. -/
inductive FilterState where
  | learning
  | inService
  | due
  | overdue
  | unknown
deriving DecidableEq, Repr

/-- A filter record (R151). -/
structure Filter where
  used : Nat
  unknown : Bool
  reference : Option Nat
  learnMinutes : Nat
  learnSum : Nat
  hourMinutes : Nat
  hourSum : Nat
  clog : Option Nat
  state : FilterState
  notice : Bool
deriving DecidableEq, Repr

/-- What the nonvolatile record holds of one filter (R163). -/
structure NvFilter where
  used : Nat
  unknown : Bool
  reference : Option Nat
  learnMinutes : Nat
  learnSum : Nat
  clog : Option Nat
deriving DecidableEq, Repr

/-- The content of the nonvolatile record (R163). -/
structure NvContent where
  supply : NvFilter
  extract : NvFilter
  trim : Int
deriving DecidableEq, Repr

/-- The save state, with the content that a write took when it began (R163). -/
inductive SaveState where
  | idle
  | writing (content : NvContent)
  | queued (content : NvContent)
deriving DecidableEq, Repr

/-- The nonvolatile record: its content and its check byte (R163). -/
structure Nv where
  content : NvContent
  check : Byte
deriving DecidableEq, Repr

structure Filters where
  supply : Filter
  extract : Filter
  supplyMinute : Bool
  extractMinute : Bool
  minuteTimer : Timer
  minuteCount : Nat
  trim : Int
  fromFloor : Bool
  period : Nat
  spoiled : Bool
  save : SaveState
  restored : Bool
deriving DecidableEq, Repr

/-! ### Time base (Chapter 10) -/

/-- A valid schedule entry (R171); a disabled hour or minute is held as 0. -/
structure SchedEntry where
  days : BitVec 7
  hourOn : Bool
  hour : Nat
  minuteOn : Bool
  minute : Nat
  mode : SchedMode
deriving DecidableEq, Repr

structure Clock where
  time : Nat
  sub : Nat
  slew : Int
  source : Option Station
  schedule : Vector (Option SchedEntry) 8
  second : Nat
  withhold : Nat
deriving DecidableEq, Repr

/-! ### Sensor scanner and fault indicator (Chapter 11) -/

/-- R177. -/
inductive ChannelState where
  | starting
  | valid
  | invalid
deriving DecidableEq, Repr

structure Channel where
  state : ChannelState
  reading : Option Int
  bad : Nat
  good : Nat
deriving DecidableEq, Repr

def Channel.starting : Channel := { state := .starting, reading := none, bad := 0, good := 0 }

structure Sensors where
  scanTimer : Timer
  tO : Channel
  tS : Channel
  tE : Channel
  tX : Channel
  hE : Channel
deriving DecidableEq, Repr

/-- R180. -/
inductive LampLevel where
  | off
  | blinking
  | steady
deriving DecidableEq, Repr

structure Lamp where
  level : LampLevel
  on : Bool
  timer : Timer
deriving DecidableEq, Repr

/-! ### Panel port (Chapter 12) -/

/-- R183. -/
inductive Phase where
  | hunt
  | code
  | length
  | data
  | sum
deriving DecidableEq, Repr

/-- The reply kinds (R183). -/
inductive ReplyKind where
  | done
  | refused
  | unknownRequest
  | badFormat
deriving DecidableEq, Repr

structure Reply where
  kind : ReplyKind
  code : Byte
  data : List Byte
deriving DecidableEq, Repr

/-- The requests that wait for the restore (R185). -/
inductive FilterRequest where
  | ack (filter : Byte)
  | reset (filter : Byte)
deriving DecidableEq, Repr

/-- R183. -/
inductive ReplyState where
  | none
  | deferred (request : FilterRequest)
  | sending (reply : Reply)
deriving DecidableEq, Repr

structure Panel where
  phase : Phase
  code : Byte
  length : Byte
  data : List Byte
  reply : ReplyState
  restartWait : Timer
  restartDue : Bool
deriving DecidableEq, Repr

/-! ### The station -/

structure State where
  power : Power
  line : Line
  out : Outgoing
  peers : Peers
  join : Join
  mode : ModeRecord
  plan : Plan
  supplyFan : Fan
  extractFan : Fan
  stack : Stack
  frost : Frost
  queue : Queue
  own : OwnPlace
  humid : Humid
  filters : Filters
  nv : Nv
  torn : Nat
  clock : Clock
  sensors : Sensors
  lamp : Lamp
  panel : Panel
  events : BitVec 14
  pending : List Instr
deriving DecidableEq, Repr

/-- No command stops this machine with a fault: every event of the spec has an effect on State (INVENTORY.md, Faults). -/
inductive Fault where
deriving DecidableEq, Repr

inductive Refusal where
  /-- Raised by an arm of exec whose command has no meaning yet: safe, the model says nothing of it. No arm raises it. -/
  | notModelled (mnemonic : String)
deriving DecidableEq, Repr

/-! ### Start values -/

def Line.start : Line :=
  { condition := .clear, cause := .none, errors := 0, lastSender := 15, collisions := 0, receiverOn := false,
    receiverReady := false, pullUp := false, idle := false, slotTime := none, sending := none, run := none,
    tally := { sender := none, received := 0, mismatched := 0 } }

def Outgoing.empty : Outgoing := { give := false, take := false, status := false, test := false, terms := none }

def Peers.start : Peers :=
  { roundTimer := none, ticks := 0, records := Vector.replicate 16 .cleared, ownReport := none, unusable := 0 }

/-- R43. -/
def Join.start : Join :=
  { membership := .straps, samples := [], straps := none, terms := .defaults, source := .defaults, panelSet := none,
    best := none, querySent := false, skew := false, listenTicks := 0 }

def ModeRecord.start : ModeRecord := { held := none, boost := none, scheduled := none }

def Plan.start : Plan := { effective := .normal, supply := 0, extract := 0, curbed := false }

def Fan.start : Fan :=
  { state := .stopped, duty := 0, targetFlow := 0, targetSpeed := 0, measured := 0, attempts := 0, stateTimer := none,
    stallWindow := none, edgeSeen := false, lastEdge := none, runTime := 0, loopTimer := none }

def Stack.start : Stack := { demand := 0, cap := 0, claim := 0, backoff := 0 }

/-- R93: T_lim is the frost base limit in force, the default 10, plus 30. -/
def Frost.start : Frost :=
  { stage := .clear, reduction := 0, blind := false, tLim := 40, stepTimer := none, clearTimer := none, stopTimer := none,
    thawTimer := none, preheatOn := 0, reTake := none, preheater := false }

/-- R115. -/
def Queue.start : Queue :=
  { entries := [], n := 0, nSet := false, state := .rebuild, rebuild := 0, confirm := 0, stale := 0, late := 0 }

def OwnPlace.start : OwnPlace := { outstanding := false, leaving := none, eligible := false }

/-- R139. -/
def Humid.start : Humid :=
  { sum := 0, count := 0, ring := [], state := .idle, boostMinutes := 0, restMinutes := 0, frostStop := false }

/-- The fields a filter record shows until the restore (DESIGN CHOICE, log 9). -/
def Filter.start : Filter :=
  { used := 0, unknown := false, reference := none, learnMinutes := 0, learnSum := 0, hourMinutes := 0, hourSum := 0,
    clog := none, state := .learning, notice := false }

/-- R151. -/
def Filters.start : Filters :=
  { supply := .start, extract := .start, supplyMinute := false, extractMinute := false, minuteTimer := none,
    minuteCount := 0, trim := 0, fromFloor := false, period := 0, spoiled := true, save := .idle, restored := false }

def NvFilter.blank : NvFilter :=
  { used := 0, unknown := false, reference := none, learnMinutes := 0, learnSum := 0, clog := none }

/-- A record that has never been saved (R164): it reads with a bad check. DESIGN CHOICE, log 7. -/
def Nv.neverSaved : Nv := { content := { supply := .blank, extract := .blank, trim := 0 }, check := 0 }

/-- R165. -/
def Clock.start : Clock :=
  { time := 0, sub := 0, slew := 0, source := none, schedule := Vector.replicate 8 none, second := 0, withhold := 0 }

def Sensors.start : Sensors :=
  { scanTimer := none, tO := .starting, tS := .starting, tE := .starting, tX := .starting, hE := .starting }

def Lamp.start : Lamp := { level := .off, on := false, timer := none }

/-- R183. -/
def Panel.start : Panel :=
  { phase := .hunt, code := 0, length := 0, data := [], reply := .none, restartWait := none, restartDue := false }

/-- The station right after a power-on start has begun (R43, R182), on a part that has never saved a record. -/
def State.reset : State :=
  { power := .running, line := .start, out := .empty, peers := .start, join := .start, mode := .start, plan := .start,
    supplyFan := .start, extractFan := .start, stack := .start, frost := .start, queue := .start, own := .start,
    humid := .start, filters := .start, nv := .neverSaved, torn := 0, clock := .start, sensors := .start, lamp := .start,
    panel := .start, events := 0, pending := [] }

end Sys2Proof.Machine
end

