-- ==== Sys2Proof/Machine/Operands.lean ====
section
/-! DEFINITION. The byte layouts: check byte, terrace frames, STATUS and TERMS payloads, schedule entries, the nonvolatile
record, and how the receiver and the panel port judge the characters they are given. -/

namespace Sys2Proof.Machine

/-! ### Bytes, least significant first (R183, R189) -/

def byteOf (n : Nat) : Byte := BitVec.ofNat 8 n

def le16 (n : Nat) : List Byte := [byteOf n, byteOf (n / 256)]

def le24 (n : Nat) : List Byte := [byteOf n, byteOf (n / 256), byteOf (n / 65536)]

def le32 (n : Nat) : List Byte := [byteOf n, byteOf (n / 256), byteOf (n / 65536), byteOf (n / 16777216)]

/-- A signed byte in two's complement. -/
def signedByte (i : Int) : Byte := BitVec.ofInt 8 i

/-- A signed two-byte value in two's complement. -/
def signed16 (i : Int) : List Byte := le16 (BitVec.ofInt 16 i).toNat

def bit (b : Bool) (place : Nat) : Nat := if b then 2 ^ place else 0

/-- (a − b) mod 256, the distance by which serials and versions are compared. -/
def serialDistance (a b : Byte) : Nat := (a - b).toNat

/-! ### Characters (R3, R183) -/

/-- The level of a bit: 0 dominant, 1 recessive. -/
def levelOf (b : Bool) : Level := if b then .recessive else .dominant

/-- The ten bit times of a character: dominant start bit, eight data bits with the least significant first, recessive stop
bit (R3; on the panel line low and high, R183). -/
def charLevels (b : Byte) : CharLevels :=
  #v[.dominant, levelOf (b.getLsbD 0), levelOf (b.getLsbD 1), levelOf (b.getLsbD 2), levelOf (b.getLsbD 3),
     levelOf (b.getLsbD 4), levelOf (b.getLsbD 5), levelOf (b.getLsbD 6), levelOf (b.getLsbD 7), .recessive]

/-- The levels a sender drives for bytes sent back to back, bit time by bit time; the line is released after the last stop
bit (R3). -/
def lineLevels (bytes : List Byte) : List Level := (bytes.map (fun b => (charLevels b).toList)).flatten

/-- Whether a bit time is recessive. -/
def isHigh (c : CharLevels) (i : Fin 10) : Bool := c.get i = Level.recessive

/-- The data bits of ten levels. -/
def dataByte (c : CharLevels) : Byte :=
  byteOf (bit (isHigh c 1) 0 + bit (isHigh c 2) 1 + bit (isHigh c 3) 2 + bit (isHigh c 4) 3 + bit (isHigh c 5) 4
    + bit (isHigh c 6) 5 + bit (isHigh c 7) 6 + bit (isHigh c 8) 7)

/-- The character formed from ten levels: none when the start bit is recessive at its middle, a glitch (R3). -/
def receiveChar (c : CharLevels) : Option RxChar :=
  if isHigh c 0 then none else some { byte := dataByte c, stopGood := isHigh c 9 }

/-- The characters formed; a glitch forms none and the receiver looks for the next change to dominant (R3). -/
def receiveChars (chars : List CharLevels) : List RxChar := chars.filterMap receiveChar

/-- The bytes the panel port takes: one whose stop bit is low is discarded as if it had not arrived (R183). -/
def panelBytes (chars : List RxChar) : List Byte := (chars.filter RxChar.stopGood).map RxChar.byte

/-! ### The check byte (R6) -/

def crcShift (c : Byte) : Byte := if c.msb then (c <<< 1) ^^^ 0x1D#8 else c <<< 1

def crcByte (c b : Byte) : Byte :=
  crcShift (crcShift (crcShift (crcShift (crcShift (crcShift (crcShift (crcShift (c ^^^ b))))))))

def checkByte (bytes : List Byte) : Byte := bytes.foldl crcByte 0xFF#8

/-! ### Frame kinds (R5) -/

/-- The payload lengths the receiver accepts for a kind code, or none for an unknown kind. -/
def kindLengths (code : Nat) : Option (List Nat) :=
  match code with
  | 1 => some [1]
  | 2 => some [1]
  | 3 => some [12]
  | 4 => some [0, 15]
  | 5 => some [16]
  | _ => none

/-- The header byte (R189). -/
def headerByte (kind : Nat) (sender : Station) : Byte := byteOf (kind * 16 + sender.val)

/-- The errors that end the assembly of a frame (R7). -/
inductive ReceiveFault where
  | badStop
  | unknownKind
  | badLength
  | fragment
  | checkMismatch
deriving DecidableEq, Repr

/-- The first receive error of the characters heard since the receiver last began a frame (R7): none when no frame has
begun or the frame is valid. -/
def receiveFault (chars : List RxChar) : Option ReceiveFault :=
  match chars with
  | [] => none
  | header :: rest =>
    if !header.stopGood then some .badStop
    else match kindLengths (header.byte.toNat / 16) with
      | none => some .unknownKind
      | some lengths =>
        match rest with
        | [] => some .fragment
        | length :: body =>
          if !length.stopGood then some .badStop
          else if !lengths.contains length.byte.toNat then some .badLength
          else
            let need := length.byte.toNat + 1
            let heard := body.take need
            if heard.any (fun c => !c.stopGood) then some .badStop
            else if heard.length < need then some .fragment
            else
              let bytes := heard.map RxChar.byte
              if checkByte (header.byte :: length.byte :: bytes.take (need - 1)) = bytes.getLastD 0 then none
              else some .checkMismatch

/-! ### STATUS (R190) -/

def modeCode : Mode → Nat
  | .off => 0
  | .frostStop => 1
  | .fanFault => 2
  | .boost => 3
  | .humid => 4
  | .normal => 5
  | .night => 6
  | .away => 7

def modeOfCode (n : Nat) : Option Mode :=
  match n with
  | 0 => some .off
  | 1 => some .frostStop
  | 2 => some .fanFault
  | 3 => some .boost
  | 4 => some .humid
  | 5 => some .normal
  | 6 => some .night
  | 7 => some .away
  | _ => none

def stageCode : FrostStage → Nat
  | .clear => 0
  | .watch => 1
  | .reduce => 2
  | .preheat => 3
  | .stop => 4

def stageOfCode (n : Nat) : Option FrostStage :=
  match n with
  | 0 => some .clear
  | 1 => some .watch
  | 2 => some .reduce
  | 3 => some .preheat
  | 4 => some .stop
  | _ => none

def copyCode : CopyState → Nat
  | .rebuild => 0
  | .synced => 1
  | .unsure => 2

def copyOfCode (n : Nat) : Option CopyState :=
  match n with
  | 0 => some .rebuild
  | 1 => some .synced
  | 2 => some .unsure
  | _ => none

/-- Whether every field lies in the values of R27 (R36). -/
def Report.usable (r : Report) : Bool :=
  r.reduction10 ≤ 6 && (!r.entryGranted || r.entryPresent) && r.time ≤ 604799

/-- The report a STATUS payload carries, or none when it is unusable (R36). -/
def decodeStatus (p : StatusBytes) : Option Report :=
  match modeOfCode p.b0.toNat, stageOfCode (p.b1.toNat / 16), copyOfCode p.b4.toNat with
  | some mode, some stage, some copyState =>
    let r : Report :=
      { mode := mode, stage := stage, reduction10 := p.b1.toNat % 16, claim := p.b2.toNat,
        lineNotClear := p.b3.getLsbD 0, backoff := p.b3.getLsbD 1, curbed := p.b3.getLsbD 2,
        filterDue := p.b3.getLsbD 3, skew := p.b3.getLsbD 4, entryPresent := p.b3.getLsbD 5,
        entryGranted := p.b3.getLsbD 6, copyState := copyState, entrySerial := p.b5, n := p.b6,
        filterLife := p.b7.toNat, termsVersion := p.b8,
        time := p.b9.toNat + 256 * p.b10.toNat + 65536 * p.b11.toNat }
    if r.usable then some r else none
  | _, _, _ => none

/-- The payload of a STATUS (R190). -/
def encodeStatus (r : Report) : StatusBytes :=
  { b0 := byteOf (modeCode r.mode), b1 := byteOf (stageCode r.stage * 16 + r.reduction10), b2 := byteOf r.claim,
    b3 := byteOf (bit r.lineNotClear 0 + bit r.backoff 1 + bit r.curbed 2 + bit r.filterDue 3 + bit r.skew 4
      + bit r.entryPresent 5 + bit r.entryGranted 6),
    b4 := byteOf (copyCode r.copyState), b5 := r.entrySerial, b6 := r.n, b7 := byteOf r.filterLife, b8 := r.termsVersion,
    b9 := byteOf r.time, b10 := byteOf (r.time / 256), b11 := byteOf (r.time / 65536) }

def statusList (p : StatusBytes) : List Byte :=
  [p.b0, p.b1, p.b2, p.b3, p.b4, p.b5, p.b6, p.b7, p.b8, p.b9, p.b10, p.b11]

/-! ### TERMS (R48, R189) -/

/-- Whether every field lies in its range (R48). -/
def Terms.usable (t : Terms) : Bool :=
  t.stackLimit ≤ 4095 && (1 ≤ t.concurrency && t.concurrency ≤ 4)
  && (60 ≤ t.holdLimit && t.holdLimit ≤ 1800 && t.holdLimit % 10 = 0)
  && (-50 ≤ t.frostBase && t.frostBase ≤ 50) && t.imbalance ≤ 20
  && (40 ≤ t.humidUpper && t.humidUpper ≤ 90)
  && (30 ≤ t.humidLower && t.humidLower ≤ 85 && t.humidLower + 5 ≤ t.humidUpper)
  && (100 ≤ t.filterLife && t.filterLife ≤ 2000)
  && (1 ≤ t.ahead && t.ahead ≤ 32) && (1 ≤ t.behind && t.behind ≤ 32)
  && (1 ≤ t.errorThreshold && t.errorThreshold ≤ 15) && (-16 ≤ t.trimFloor && t.trimFloor ≤ 15)
  && (t.version ≠ 0 || t = Terms.defaults)

/-- The fields the fifteen bytes carry, in range or not. -/
def termsFields (p : TermsBytes) : Terms :=
  { version := p.b0, stackLimit := p.b1.toNat + 256 * p.b2.toNat, concurrency := p.b3.toNat,
    holdLimit := 10 * p.b4.toNat, frostBase := p.b5.toInt, imbalance := p.b6.toNat, humidUpper := p.b7.toNat,
    humidLower := p.b8.toNat, filterLife := p.b9.toNat + 256 * p.b10.toNat, ahead := p.b11.toNat, behind := p.b12.toNat,
    errorThreshold := p.b13.toNat, trimFloor := p.b14.toInt }

/-- The terms set the bytes carry, or none when it is unusable (R48). -/
def decodeTerms (p : TermsBytes) : Option Terms := if (termsFields p).usable then some (termsFields p) else none

/-- The fifteen bytes of a terms set (R189). -/
def encodeTerms (t : Terms) : TermsBytes :=
  { b0 := t.version, b1 := byteOf t.stackLimit, b2 := byteOf (t.stackLimit / 256), b3 := byteOf t.concurrency,
    b4 := byteOf (t.holdLimit / 10), b5 := signedByte t.frostBase, b6 := byteOf t.imbalance, b7 := byteOf t.humidUpper,
    b8 := byteOf t.humidLower, b9 := byteOf t.filterLife, b10 := byteOf (t.filterLife / 256), b11 := byteOf t.ahead,
    b12 := byteOf t.behind, b13 := byteOf t.errorThreshold, b14 := signedByte t.trimFloor }

def termsList (p : TermsBytes) : List Byte :=
  [p.b0, p.b1, p.b2, p.b3, p.b4, p.b5, p.b6, p.b7, p.b8, p.b9, p.b10, p.b11, p.b12, p.b13, p.b14]

/-- Version a is newer than version b (R48). -/
def newerVersion (a b : Byte) : Bool :=
  if b = 0 then a ≠ 0 else a ≠ 0 && 1 ≤ serialDistance a b && serialDistance a b ≤ 127

/-- Two sets agree when their contents, every field but the version, are equal (R48). -/
def Terms.agrees (a b : Terms) : Bool := { a with version := 0 } = { b with version := 0 }

/-! ### Own frames (R12, R189) -/

/-- Byte i of the test pattern is (seed + 37 × i) mod 256 (R23). -/
def testPattern (seed : Byte) : List Byte := (List.range 16).map (fun i => seed + byteOf (37 * i))

def Content.kind : Content → Nat
  | .give _ => 1
  | .take _ => 2
  | .status _ => 3
  | .termsQuery => 4
  | .termsSet _ => 4
  | .test _ => 5

def Content.payload : Content → List Byte
  | .give serial => [serial]
  | .take serial => [serial]
  | .status r => statusList (encodeStatus r)
  | .termsQuery => []
  | .termsSet t => termsList (encodeTerms t)
  | .test seed => testPattern seed

/-- Header, length, payload and check byte of the station's own frame (R5, R6, R189). -/
def frameBytes (sender : Station) (c : Content) : List Byte :=
  let body := headerByte c.kind sender :: byteOf c.payload.length :: c.payload
  body ++ [checkByte body]

/-- The levels the station drives while it sends the frame (R3). -/
def Sending.levels (f : Sending) : List Level := lineLevels f.bytes

/-! ### Schedule entries (R171, R191) -/

def schedModeCode : SchedMode → Nat
  | .normal => 1
  | .night => 2
  | .away => 3

def schedModeOfCode (n : Nat) : Option SchedMode :=
  match n with
  | 1 => some .normal
  | 2 => some .night
  | 3 => some .away
  | _ => none

/-- The entry that four bytes give: none when an enabled hour or minute or the mode is out of its range, `some none` for
an empty entry (R171). The bits of a valid entry to which R191 gives no meaning are not read: the model's choice (log 39). -/
def decodeEntry (e : EntryBytes) : Option (Option SchedEntry) :=
  if !e.b0.getLsbD 7 then some none
  else
    let hour := e.b1.toNat % 32
    let minute := e.b2.toNat % 64
    match schedModeOfCode e.b3.toNat with
    | none => none
    | some mode =>
      if (e.b1.getLsbD 7 && 24 ≤ hour) || (e.b2.getLsbD 7 && 60 ≤ minute) then none
      else some (some
        { days := e.b0.extractLsb' 0 7, hourOn := e.b1.getLsbD 7, hour := if e.b1.getLsbD 7 then hour else 0,
          minuteOn := e.b2.getLsbD 7, minute := if e.b2.getLsbD 7 then minute else 0, mode := mode })

/-- The four bytes of an entry (R191). The bits of a valid entry to which R191 gives no meaning are sent as 0, and so are bits
0 to 6 of an empty entry's first byte, of which R191 says nothing: the model's choice (log 40). -/
def encodeEntry (e : Option SchedEntry) : EntryBytes :=
  match e with
  | none => { b0 := 0, b1 := 0, b2 := 0, b3 := 0 }
  | some e =>
    { b0 := byteOf (128 + e.days.toNat), b1 := byteOf (bit e.hourOn 7 + e.hour), b2 := byteOf (bit e.minuteOn 7 + e.minute),
      b3 := byteOf (schedModeCode e.mode) }

def entryList (e : EntryBytes) : List Byte := [e.b0, e.b1, e.b2, e.b3]

/-! ### The nonvolatile record (R163) -/

def NvFilter.bytes (f : NvFilter) : List Byte :=
  le32 f.used ++ [byteOf (bit f.unknown 0 + bit f.reference.isSome 1 + bit f.clog.isSome 2)] ++ le16 (f.reference.getD 0)
    ++ le16 f.learnMinutes ++ le32 f.learnSum ++ le16 (f.clog.getD 0)

/-- The bytes of the record in a fixed order (R163; the order is a DESIGN CHOICE, log 7). -/
def NvContent.bytes (c : NvContent) : List Byte := c.supply.bytes ++ c.extract.bytes ++ [signedByte c.trim]

/-- The record of a write that ran to its end (R163). -/
def Nv.ofContent (c : NvContent) : Nv := { content := c, check := checkByte c.bytes }

/-- Whether the check byte agrees with the record (R164). -/
def Nv.good (nv : Nv) : Bool := nv.check = checkByte nv.content.bytes

/-! ### Panel messages (R183, R184, R186) -/

/-- The data length R186 gives for a request code, or none for an unknown code. -/
def requestLength (code : Nat) : Option Nat :=
  match code with
  | 1 => some 0
  | 2 => some 2
  | 3 => some 3
  | 4 => some 5
  | 5 => some 1
  | 6 => some 1
  | 7 => some 1
  | 8 => some 1
  | 9 => some 1
  | 10 => some 0
  | 11 => some 15
  | 12 => some 2
  | 13 => some 0
  | 14 => some 2
  | 15 => some 0
  | _ => none

/-- What the port has assembled of the bytes it was given from HUNT on (R184). -/
inductive Assembly where
  | waiting (phase : Phase) (code length : Byte) (data : List Byte)
  | tooLong (code length : Byte)
  | complete (code length : Byte) (data : List Byte) (sum : Byte)
deriving DecidableEq, Repr

def assemble (bytes : List Byte) : Assembly :=
  match bytes.dropWhile (fun b => b != 0xA5#8) with
  | [] => .waiting .hunt 0 0 []
  | [_] => .waiting .code 0 0 []
  | [_, code] => .waiting .length code 0 []
  | _ :: code :: length :: rest =>
    if 16 < length.toNat then .tooLong code length
    else if rest.length < length.toNat then .waiting .data code length rest
    else match rest.drop length.toNat with
      | [] => .waiting .sum code length rest
      | sum :: _ => .complete code length (rest.take length.toNat) sum

/-- The sum byte: the bytes added modulo 256 (R183). -/
def sumByte (bytes : List Byte) : Byte := bytes.foldl (· + ·) 0

/-- How the port answers a request by itself (R184): none when the request is well formed, or not yet complete. -/
def formatReply (a : Assembly) : Option ReplyKind :=
  match a with
  | .waiting _ _ _ _ => none
  | .tooLong _ _ => some .badFormat
  | .complete code length data sum =>
    if sumByte (code :: length :: data) ≠ sum then some .badFormat
    else match requestLength code.toNat with
      | none => some .unknownRequest
      | some n => if length.toNat = n then none else some .badFormat

def replyKindCode : ReplyKind → Nat
  | .done => 0
  | .refused => 1
  | .unknownRequest => 2
  | .badFormat => 3

/-- The bytes of a reply frame (R183). -/
def replyBytes (r : Reply) : List Byte :=
  let body := byteOf (replyKindCode r.kind) :: r.code :: byteOf r.data.length :: r.data
  0x5A#8 :: body ++ [sumByte body]

end Sys2Proof.Machine
end

