-- ==== Sys2Proof/Machine/Timing.lean ====
section
/-! DEFINITION. The lengths of the station's timers, in ticks of 1/64 s (log 1). -/

namespace Sys2Proof.Machine

/-- The ticks of n seconds. -/
def seconds (n : Nat) : Nat := n * Config.ticksPerSecond

/-- R25. -/
def roundTicks : Nat := seconds 4

/-- R175. -/
def scanTicks : Nat := seconds 2

/-- R72. -/
def kickTicks : Nat := seconds 2

/-- R74. -/
def restartWaitTicks : Nat := seconds 30

/-- R70, R73. -/
def stallTicks : Nat := seconds 1

/-- 250 ms (R73). -/
def loopTicks : Nat := 16

/-- R77. -/
def runTicks : Nat := seconds 60

/-- R93. -/
def stepTicks : Nat := seconds 60

/-- 5 min (R93). -/
def clearTicks : Nat := seconds 300

/-- 10 min (R93). -/
def stopTicks : Nat := seconds 600

/-- 15 min (R93). -/
def thawTicks : Nat := seconds 900

/-- R109. -/
def reTakeTicks : Nat := seconds 120

/-- R153. -/
def accountingTicks : Nat := seconds 60

/-- 0.5 s (R180). -/
def blinkTicks : Nat := 32

/-- R187. -/
def panelWaitTicks : Nat := seconds 1

/-- The bit times of the terrace line, at 4800 bit/s, in one tick. -/
def lineBitTimes : Nat := 4800 / Config.ticksPerSecond

/-- One tick less of a running timer; a timer at its end stays there until its event is taken. -/
def tickDown (t : Timer) : Timer := t.map (· - 1)

/-- Whether a timer has come to its end and its event has not been taken. -/
def atEnd (t : Timer) : Bool := t = some 0

/-- Remaining time in whole seconds, rounded up, 0 when stopped (R192). -/
def secondsLeft (t : Timer) : Nat :=
  match t with
  | none => 0
  | some n => (n + (Config.ticksPerSecond - 1)) / Config.ticksPerSecond

end Sys2Proof.Machine
end

