-- ==== Sys2Proof/Machine/Flags.lean ====
section
/-! DEFINITION. The event flag set (R188) and the fault indicator (R180). -/

namespace Sys2Proof.Machine

/-- The fourteen event flags (R188). -/
inductive EventFlag where
  | stall
  | fanFailed
  | frostStop
  | queueLockout
  | holdOverrun
  | lineStuck
  | lineDoubt
  | muted
  | termsConflict
  | termsSkew
  | filterNotice
  | nvLost
  | sensorInvalid
  | stackCut
deriving DecidableEq, Repr

/-- The bit of a flag in the set (R188). -/
def EventFlag.place : EventFlag → Nat
  | .stall => 0
  | .fanFailed => 1
  | .frostStop => 2
  | .queueLockout => 3
  | .holdOverrun => 4
  | .lineStuck => 5
  | .lineDoubt => 6
  | .muted => 7
  | .termsConflict => 8
  | .termsSkew => 9
  | .filterNotice => 10
  | .nvLost => 11
  | .sensorInvalid => 12
  | .stackCut => 13

/-- Raises a flag; raising a raised flag leaves it raised (R188). -/
def raise (f : EventFlag) (s : State) : State := { s with events := s.events ||| (1#14 <<< f.place) }

/-- Raises a flag when its cause holds. -/
def raiseIf (cause : Bool) (f : EventFlag) (s : State) : State := if cause then raise f s else s

/-- Whether a flag is raised. -/
def raised (f : EventFlag) (s : State) : Bool := s.events.getLsbD f.place

/-- The level the indicator's conditions ask for (R180). -/
def lampLevel (s : State) : LampLevel :=
  if s.supplyFan.state = .failed || s.extractFan.state = .failed || s.sensors.tX.state = .invalid
      || s.line.condition = .muted then .steady
  else if s.filters.supply.notice || s.filters.extract.notice then .blinking
  else .off

/-- The indicator follows its conditions; blinking begins with an on half (R180). -/
def followLamp (s : State) : State :=
  let level := lampLevel s
  if level = s.lamp.level then s
  else { s with lamp :=
    { level := level, on := level ≠ .off, timer := if level = .blinking then some blinkTicks else none } }

end Sys2Proof.Machine
end

