-- ==== Sys2Proof/Machine/Ops.lean ====
section
/-! DEFINITION. The operations every block uses: who the station is, whom it hears, the preheat copy as it stands, and the
outgoing frame set (R16 to R18, R21). -/

namespace Sys2Proof.Machine

/-- Every station number. -/
def allStations : List Station := [0, 1, 2, 3, 4, 5, 6, 7, 8, 9, 10, 11, 12, 13, 14, 15]

/-- The station's own number, once the straps are latched (R45). -/
def ownNumber (s : State) : Option Station := s.join.straps.map Straps.number

def isOwn (s : State) (j : Station) : Bool := ownNumber s = some j

/-- Whether a record is PRESENT or STALE (R34). -/
def PeerRecord.held (r : PeerRecord) : Bool := r.presence ≠ .absent

/-- The reports of the PRESENT and STALE records. -/
def heldReports (s : State) : List Report :=
  s.peers.records.toList.filterMap (fun r => if r.held then r.fields else none)

/-- The presence count P (R40). -/
def presenceCount (s : State) : Nat := 1 + s.peers.records.toList.countP PeerRecord.held

/-! ### The queue copy as it stands (R116, R117, R135) -/

/-- K_eff (R117). -/
def kEff (s : State) : Nat := if s.join.skew then 1 else s.join.terms.concurrency

/-- Whether station j's entry is granted: its position is below K_eff in SYNCED or UNSURE (R117). -/
def granted (s : State) (j : Station) : Bool :=
  s.queue.state ≠ .rebuild && (s.queue.entries.take (kEff s)).any (fun e => e.station = j)

/-- The station's own entry in its copy. -/
def ownEntry (s : State) : Option Entry := s.queue.entries.find? (fun e => isOwn s e.station)

/-- The own eligibility to heat (R135). -/
def eligibleNow (s : State) : Bool :=
  match ownNumber s with
  | none => false
  | some j => granted s j && s.join.membership = .joined && s.line.condition = .clear

/-! ### The outgoing set -/

/-- The frames a block asks for (R16). -/
inductive Wanted where
  | give
  | take
  | status
  | query
  | set
  | test
deriving DecidableEq, Repr

/-- Whether a frame may be sent in the present membership and line condition (R21). -/
def permitted (s : State) (w : Wanted) : Bool :=
  match s.join.membership, s.line.condition with
  | .straps, _ => false
  | _, .stuck => false
  | _, .muted => false
  | .listen, _ => w = .query
  | .joined, .clear => true
  | .joined, .doubt => w ≠ .take && w ≠ .test

/-- The Peer Table asks for STATUS; a refused request is not kept (R26). -/
def requestStatus (s : State) : State :=
  if permitted s .status then { s with out := { s.out with status := true } } else s

/-- The Join Unit asks for its query (R46). -/
def requestQuery (s : State) : State :=
  if permitted s .query then { s with out := { s.out with terms := some .query } } else s

/-- The Join Unit asks for a TERMS set; a refused request is not kept (R50). -/
def requestTerms (s : State) : State :=
  if permitted s .set then { s with out := { s.out with terms := some .set } } else s

/-- The run asks for its next TEST; a refused placement cuts the run short (R23). -/
def requestTest (s : State) : State :=
  if permitted s .test then { s with out := { s.out with test := true } }
  else { s with line := { s.line with run := none } }

/-- The Preheat Queue asks for a GIVE with no TAKE of its own pending; a refused GIVE clears the leaving serial (R134). -/
def requestGive (s : State) : State :=
  if permitted s .give then { s with out := { s.out with give := true } }
  else { s with own := { s.own with leaving := none } }

/-- The kind code of the frame being sent. -/
def sendingKind (s : State) : Option Nat := s.line.sending.map (fun f => f.content.kind)

/-- Whether a TAKE is being sent. -/
def sendingTake (s : State) : Bool := sendingKind s = some 2

/-- A give-up (R108, R134): a pending TAKE and the GIVE asked for cancel out (R18; a GIVE that was already pending is not of
that pair and stays, log 18); behind a TAKE being sent the GIVE is placed; an own entry is left with its serial kept. -/
def giveUp (s : State) : State :=
  if s.out.take then
    { s with out := { s.out with take := false }, own := { s.own with outstanding := false } }
  else if sendingTake s then requestGive s
  else match ownEntry s with
    | some e => requestGive { s with own := { s.own with leaving := some e.serial } }
    | none => s

/-- Whether the conditions of R107 for asking for a place hold. -/
def wantsTake (s : State) : Bool :=
  s.frost.stage = .reduce && !s.frost.blind && (ownEntry s).isNone && !s.own.outstanding && s.frost.reTake.isNone
  && s.join.membership = .joined && s.line.condition = .clear && s.queue.state ≠ .rebuild

/-- The Frost Guard's request for a place (R107) as the queue takes it (R132). -/
def requestTake (s : State) : State :=
  if wantsTake s && permitted s .take then
    { s with out := { s.out with take := true }, own := { s.own with outstanding := true } }
  else s

end Sys2Proof.Machine
end

