-- ==== Sys2Proof/Machine/Planner.lean ====
section
/-! DEFINITION. The mode record, the composition of the airflow plan (Chapter 4) and the stack share unit's cap and
evaluations (Chapter 5), which answer one another. -/

namespace Sys2Proof.Machine

/-! ### Modes -/

def SchedMode.base : SchedMode → BaseMode
  | .normal => .normal
  | .night => .night
  | .away => .away

/-- R57. -/
def baseMode (m : ModeRecord) : BaseMode :=
  match m.held, m.scheduled with
  | some b, _ => b
  | none, some b => b.base
  | none, none => .normal

def BaseMode.effective : BaseMode → Mode
  | .normal => .normal
  | .night => .night
  | .away => .away
  | .off => .off

def anyFanFailed (s : State) : Bool := s.supplyFan.state = .failed || s.extractFan.state = .failed

/-- R148. -/
def humidActive (s : State) : Bool := s.humid.state = .boost

/-- R61: the first of the conditions that holds. -/
def effectiveMode (s : State) : Mode :=
  if baseMode s.mode = .off then .off
  else if s.frost.stage = .stop then .frostStop
  else if anyFanFailed s then .fanFault
  else if s.mode.boost.isSome then .boost
  else if humidActive s then .humid
  else (baseMode s.mode).effective

/-! ### Class flows (R45) -/

structure ClassRow where
  normal : Nat
  night : Nat
  away : Nat
  boost : Nat
  k : Nat
deriving DecidableEq, Repr

/-- The fan class table (R45). -/
def classRow (c : Fin 4) : ClassRow :=
  match c with
  | 0 => { normal := 60, night := 40, away := 25, boost := 100, k := 16 }
  | 1 => { normal := 75, night := 50, away := 30, boost := 125, k := 13 }
  | 2 => { normal := 90, night := 60, away := 35, boost := 150, k := 11 }
  | 3 => { normal := 110, night := 75, away := 45, boost := 180, k := 9 }

def ClassRow.flow (r : ClassRow) : BaseMode → Nat
  | .normal => r.normal
  | .night => r.night
  | .away => r.away
  | .off => 0

/-! ### The stack share unit's figures (R81) and cap (R82) -/

def baseShare (s : State) : Nat := s.join.terms.stackLimit / presenceCount s

def loneShare (s : State) : Nat := s.join.terms.stackLimit / 16

/-- The extract claims of all PRESENT and STALE records. -/
def peerClaims (s : State) : Nat := ((heldReports s).map Report.claim).sum

def headroom (s : State) : Int := s.join.terms.stackLimit - (peerClaims s : Int)

/-- The cap for a demand (R82). -/
def capFor (s : State) (d : Nat) : Nat :=
  if s.join.membership ≠ .joined || s.line.condition ≠ .clear then min d (loneShare s)
  else if 0 < s.stack.backoff || s.join.skew then min d (baseShare s)
  else if d ≤ baseShare s then d
  else (max (baseShare s : Int) (min (d : Int) (headroom s))).toNat

/-! ### The eight steps (R63) -/

def anyOverdue (s : State) : Bool := s.filters.supply.state = .overdue || s.filters.extract.state = .overdue

/-- A panel boost is present or the humidity boost is active (R63, R66). -/
def boosting (s : State) : Bool := s.mode.boost.isSome || humidActive s

/-- Steps 1 to 3, the same for supply and extract: base, boost, filter overdue. The extract is the demand D. -/
def demandOf (row : ClassRow) (s : State) : Nat :=
  let base := row.flow (baseMode s.mode)
  let raised := if boosting s then max base row.boost else base
  if anyOverdue s then min raised row.normal else raised

/-- Step 5. -/
def frostStep (supply reduction : Nat) : Nat := supply * (100 - reduction) / 100

/-- Step 6: the trim, limited to 0 to 255; skipped for a supply of 0. -/
def trimStep (supply : Nat) (trim : Int) : Nat :=
  if supply = 0 then 0 else (min 255 (max 0 ((supply : Int) + trim))).toNat

/-- Step 7: supply and extract within the imbalance limit. -/
def balanceStep (supply extract limit : Nat) : Nat × Nat :=
  if supply * 100 < extract * (100 - limit) then (supply, supply * 100 / (100 - limit))
  else if extract * (100 + limit) < supply * 100 then (extract * (100 + limit) / 100, extract)
  else (supply, extract)

/-- Step 8: the stops. -/
def stopStep (row : ClassRow) (s : State) (cap : Nat) (flows : Nat × Nat) : Nat × Nat :=
  if effectiveMode s = .off || effectiveMode s = .frostStop || s.join.membership ≠ .joined then (0, 0)
  else if s.supplyFan.state = .failed then
    if s.extractFan.state = .failed then (0, 0) else (0, min row.away cap)
  else if s.extractFan.state = .failed then (row.away, 0)
  else flows

/-- Steps 4 to 8 from the demand and the stack share unit's cap: the supply and extract targets. -/
def targetsOf (row : ClassRow) (s : State) (demand cap : Nat) : Nat × Nat :=
  stopStep row s cap
    (balanceStep (trimStep (frostStep demand s.frost.reduction) s.filters.trim) (min demand cap) s.join.terms.imbalance)

/-- Step 4 as the stack share unit answers it (R83): the held cap for the held demand, a newly formed one for another. -/
def answerDemand (s : State) (d : Nat) : Stack :=
  if d = s.stack.demand then s.stack else { s.stack with demand := d, cap := capFor s d }

/-- One composition (R63, R66), its claim handed to the stack share unit. Before the strap latch there is no fan class and
no composition, and the effective mode alone follows its conditions (R61, R62; log 11). -/
def composeOnce (s : State) : State :=
  match s.join.straps with
  | none => { s with plan := { s.plan with effective := effectiveMode s, supply := 0, extract := 0 } }
  | some straps =>
    let row := classRow straps.fanClass
    let d := demandOf row s
    let stack := answerDemand s d
    let flows := targetsOf row s d stack.cap
    { s with
      stack := { stack with claim := flows.2 }
      plan := { effective := effectiveMode s, supply := flows.1, extract := flows.2,
                curbed := boosting s && flows.2 < row.boost } }

/-! ### Evaluations (R84, R85, R87) -/

/-- Whether the riser is over-committed and the own claim above the base share (R85). -/
def overLimit (s : State) : Bool :=
  s.join.terms.stackLimit < peerClaims s + s.stack.claim && baseShare s < s.stack.claim

/-- The over-limit check: a backoff of the station's number plus one, unless one is running, and STACK_CUT (R85). -/
def checkLimit (s : State) : State :=
  if overLimit s then
    raise .stackCut { s with stack := { s.stack with
      backoff := if s.stack.backoff = 0 then ((ownNumber s).getD 0).val + 1 else s.stack.backoff } }
  else s

/-- The cap formed again for the held demand. -/
def formCap (s : State) : State := { s with stack := { s.stack with cap := capFor s s.stack.demand } }

/-- A composition with its own-demand evaluation: when the demand changed, the over-limit check and the cap again, and a
second composition with the cap (R64, R83, R87). -/
def compose (s : State) : State :=
  let s1 := composeOnce s
  if s1.stack.demand = s.stack.demand then s1 else composeOnce (formCap (checkLimit s1))

/-- An evaluation (R84): the check, the cap, and with a new cap a composition, so that the next reader sees the claim the
new cap leaves. -/
def evaluate (s : State) : State :=
  let s1 := formCap (checkLimit s)
  if s1.stack.cap = s.stack.cap then s1 else compose s1

end Sys2Proof.Machine
end

