-- ==== Sys2Proof/Machine/FanOps.lean ====
section
/-! DEFINITION. The fan records: entries to the five states, the taking of a target, edges, the speed loop (sections 4.4 and
4.5). -/

namespace Sys2Proof.Machine

def fanOf (s : State) : Side → Fan
  | .supply => s.supplyFan
  | .extract => s.extractFan

def setFan (s : State) (side : Side) (f : Fan) : State :=
  match side with
  | .supply => { s with supplyFan := f }
  | .extract => { s with extractFan := f }

/-- Entry to STOPPED (R69, R70, R71): attempts, target and edge seen are kept. -/
def Fan.toStopped (f : Fan) : Fan :=
  { f with state := .stopped, duty := 0, measured := 0, stateTimer := none, stallWindow := none, runTime := 0,
           loopTimer := none }

/-- Entry to STARTING: the kick (R70, R72). -/
def Fan.toStarting (f : Fan) : Fan :=
  { f with state := .starting, duty := 128, measured := 0, stateTimer := some kickTicks, stallWindow := none,
           edgeSeen := false, lastEdge := none, runTime := 0, loopTimer := none }

/-- Entry to RUNNING from the kick (R73). The first step of the speed loop comes 250 ms later: the model's choice (log 35). -/
def Fan.toRunning (f : Fan) : Fan :=
  { f with state := .running, duty := 128, stateTimer := none, stallWindow := some stallTicks, runTime := 0,
           loopTimer := some loopTicks }

/-- A stall event (R74); STALL is raised by the caller. -/
def Fan.toStalled (f : Fan) : Fan :=
  { f with state := .stalled, duty := 0, measured := 0, attempts := f.attempts + 1, stateTimer := some restartWaitTicks,
           stallWindow := none, runTime := 0, loopTimer := none }

/-- Entry to FAILED (R69, R76); FAN_FAILED is raised by the caller. -/
def Fan.toFailed (f : Fan) : Fan :=
  { f with state := .failed, duty := 0, measured := 0, stateTimer := none, stallWindow := none, runTime := 0,
           loopTimer := none }

/-- A new target from the planner (R71 to R76). -/
def Fan.takeTarget (f : Fan) (flow k : Nat) : Fan :=
  let g := { f with targetFlow := flow, targetSpeed := flow * k }
  match f.state with
  | .stopped => if flow * k = 0 then g else g.toStarting
  | .starting => if flow * k = 0 then g.toStopped else g
  | .running => if flow * k = 0 then g.toStopped else g
  | .stalled =>
    if flow * k = 0 then if f.attempts < 5 then g.toStopped else g.toFailed
    else g
  | .failed => g

/-- Whether a fan has newly become FAILED. -/
def newlyFailed (before after : Fan) : Bool := before.state ≠ .failed && after.state = .failed

/-- The class factor of the latched class; 0 before the latch, when both targets are 0 (log 11). -/
def classFactor (s : State) : Nat :=
  match s.join.straps with
  | none => 0
  | some straps => (classRow straps.fanClass).k

/-- The planner hands both targets to the fan drive (R64). -/
def handTargets (s : State) : State :=
  let supply := s.supplyFan.takeTarget s.plan.supply (classFactor s)
  let extract := s.extractFan.takeTarget s.plan.extract (classFactor s)
  raiseIf (newlyFailed s.supplyFan supply || newlyFailed s.extractFan extract) .fanFailed
    { s with supplyFan := supply, extractFan := extract }

/-- A falling edge at a time in µs (R70): ignored when it comes less than 7500 µs after the last accepted edge. -/
def Fan.edge (f : Fan) (time : Nat) : Fan :=
  match f.state with
  | .starting => accept
  | .running => accept
  | .stopped => f
  | .stalled => f
  | .failed => f
where
  accept : Fan :=
    match f.lastEdge with
    | none => { f with edgeSeen := true, stallWindow := some stallTicks, lastEdge := some time }
    | some last =>
      if time < last + 7500 then f
      else { f with edgeSeen := true, stallWindow := some stallTicks, lastEdge := some time,
                    measured := 30000000 / (time - last) }

/-- The difference of target and measured speed divided by 32 and limited to −8 to +8 (R73). -/
def loopChange (target measured : Nat) : Int := max (-8) (min 8 (((target : Int) - measured).tdiv 32))

/-- A step of the speed loop (R73); the next one comes 250 ms after it, however it came: the model's choice (log 35). -/
def Fan.loopStep (f : Fan) : Fan :=
  { f with duty := (max 20 (min 255 ((f.duty : Int) + loopChange f.targetSpeed f.measured))).toNat,
           loopTimer := some loopTicks }

/-- Whether the measured speed lies within 5 percent of the target speed (R154). -/
def Fan.onSpeed (f : Fan) : Bool := ((f.measured : Int) - f.targetSpeed).natAbs * 20 ≤ f.targetSpeed

end Sys2Proof.Machine
end

