-- ==== Sys2Proof/Machine/FrostOps.lean ====
section
/-! DEFINITION. The frost guard's readings and transitions (Chapter 6). Where a transition gives up the preheat place, the
request goes to the preheat queue at once (R108). -/

namespace Sys2Proof.Machine

/-- A reading that counts: the channel is VALID (R95, R178). -/
def Channel.value (c : Channel) : Option Int := if c.state = .valid then c.reading else none

/-- T_o is −20 or below, or invalid (R95). -/
def outdoorCold (s : State) : Bool :=
  match s.sensors.tO.value with
  | none => true
  | some t => t ≤ -20

/-- T_o is above 0; not met while it is invalid (R95). -/
def outdoorMild (s : State) : Bool :=
  match s.sensors.tO.value with
  | none => false
  | some t => 0 < t

def exhaust (s : State) : Option Int := s.sensors.tX.value

/-- T_x below a limit; not met while T_x is invalid (R95). -/
def exhaustBelow (s : State) (limit : Int) : Bool :=
  match exhaust s with
  | none => false
  | some t => t < limit

/-- T_x at a limit or above; not met while T_x is invalid (R95). -/
def exhaustFrom (s : State) (limit : Int) : Bool :=
  match exhaust s with
  | none => false
  | some t => limit ≤ t

/-- The humidity lift (R94). -/
def humidLift (h : Option Int) : Int :=
  match h with
  | none => 30
  | some h => if h ≤ 40 then 0 else min 30 (5 * ((h - 40) / 10))

/-- T_lim formed at a scan (R94). -/
def formLimit (s : State) : State :=
  { s with frost := { s.frost with tLim := s.join.terms.frostBase + humidLift s.sensors.hE.value } }

/-- The BLIND condition (R111). -/
def blindHolds (s : State) : Bool := (exhaust s).isNone && outdoorCold s

/-- Whether the supply fan moves air: STARTING or RUNNING (R100). -/
def supplyMoves (s : State) : Bool := s.supplyFan.state = .starting || s.supplyFan.state = .running

/-! ### Stages -/

/-- Entry to WATCH with reduction 0 (R97, R98): its timers stand stopped. -/
def toWatch (s : State) : State :=
  { s with frost := { s.frost with stage := .watch, reduction := 0, blind := false, stepTimer := none, clearTimer := none,
                                   stopTimer := none, thawTimer := none, preheater := false } }

/-- Entry to CLEAR with reduction 0 (R97, R113). -/
def toClear (s : State) : State :=
  { s with frost := { s.frost with stage := .clear, reduction := 0, blind := false, stepTimer := none, clearTimer := none,
                                   stopTimer := none, thawTimer := none, preheater := false } }

/-- Entry to PREHEAT (R100): the reduction is kept and the stop timer keeps running if it was. -/
def toPreheat (s : State) : State :=
  { s with frost := { s.frost with stage := .preheat, stepTimer := some stepTicks, clearTimer := none, preheatOn := 0 } }

/-- Eligibility found set in REDUCE with BLIND clear (R100): PREHEAT while the supply fan moves, else the place is given up. -/
def reduceEligible (s : State) : State := if supplyMoves s then toPreheat s else giveUp s

/-- PREHEAT back to REDUCE with reduction at least 10 (R103, R104). -/
def preheatToReduce (s : State) : State :=
  { s with frost := { s.frost with
      stage := .reduce, reduction := if s.frost.reduction = 0 then 10 else s.frost.reduction,
      stepTimer := some stepTicks, clearTimer := none, preheater := false } }

/-- Eligibility lost in PREHEAT (R103): a place still granted is given up, one displaced is kept. -/
def preheatLost (s : State) : State :=
  let s1 := preheatToReduce s
  match ownEntry s with
  | none => s1
  | some e => if granted s e.station then giveUp s1 else s1

/-- WATCH to REDUCE with reduction 10 (R98), and on to PREHEAT when the eligibility is already set (R100). -/
def watchToReduce (s : State) : State :=
  let s1 := { s with frost := { s.frost with stage := .reduce, reduction := 10, stepTimer := some stepTicks,
                                             clearTimer := none } }
  if s.own.eligible then reduceEligible s1 else s1

/-- BLIND entry (R111). -/
def toBlind (s : State) : State :=
  giveUp { s with frost := { s.frost with stage := .reduce, reduction := 40, blind := true, stepTimer := none,
                                          clearTimer := none, stopTimer := none, thawTimer := none, preheater := false } }

/-- BLIND ends at a scan that finds T_x valid (R112). -/
def endBlind (s : State) : State :=
  let s1 := { s with frost := { s.frost with blind := false, stepTimer := some stepTicks } }
  if s.own.eligible then reduceEligible s1 else s1

/-- Entry to STOP (R105). -/
def toStop (s : State) : State :=
  raise .frostStop (giveUp { s with frost := { s.frost with
    stage := .stop, stepTimer := none, clearTimer := none, stopTimer := none, thawTimer := some thawTicks,
    preheater := false } })

/-- A panel OFF (R113): taken at once in every stage but STOP. -/
def panelOff (s : State) : State := if s.frost.stage = .stop then s else giveUp (toClear s)

/-- The re-take wait starts, again from 120 s while it runs (R109). -/
def startReTake (s : State) : State := { s with frost := { s.frost with reTake := some reTakeTicks } }

/-! ### Timers of continuity (R96) -/

/-- A continuity timer at a scan: it starts when its condition holds while it is stopped, and stops when it does not hold. -/
def continuity (holds : Bool) (length : Nat) (t : Timer) : Timer :=
  if holds then (match t with | none => some length | some n => some n) else none

/-- The clear timer's condition in the present stage (R98, R102). -/
def clearHolds (s : State) : Bool :=
  match s.frost.stage with
  | .watch => outdoorMild s && exhaustFrom s (s.frost.tLim + 31)
  | .preheat => outdoorMild s && exhaustFrom s (s.frost.tLim + 30)
  | .clear => false
  | .reduce => false
  | .stop => false

/-- The stop timer's condition in the present stage (R99, R112). -/
def stopHolds (s : State) : Bool :=
  (s.frost.stage = .reduce || s.frost.stage = .preheat) && !s.frost.blind && s.frost.reduction = 60
    && exhaustBelow s (s.frost.tLim - 30)

def runContinuity (s : State) : State :=
  { s with frost := { s.frost with clearTimer := continuity (clearHolds s) clearTicks s.frost.clearTimer,
                                   stopTimer := continuity (stopHolds s) stopTicks s.frost.stopTimer } }

/-- The conditions of the present stage at a scan (R97, R98, R112). -/
def stageAtScan (s : State) : State :=
  match s.frost.stage with
  | .clear =>
    if outdoorCold s || (exhaust s).isSome && !exhaustFrom s (s.frost.tLim + 21) then toWatch s else s
  | .watch => if exhaustBelow s s.frost.tLim then watchToReduce s else s
  | .reduce => if s.frost.blind && (exhaust s).isSome then endBlind s else s
  | .preheat => s
  | .stop => s

/-- Whether the frost guard takes a scan (R93, R106, R175). -/
def frostTakesScan (s : State) : Bool :=
  s.join.membership = .joined && baseMode s.mode ≠ .off && s.frost.stage ≠ .stop

/-- One evaluation (R96). At a scan that ends BLIND the stop timer's condition cannot hold, for the reduction is 40 (R112). -/
def frostScan (s : State) : State :=
  if frostTakesScan s then
    let s1 := runContinuity (formLimit s)
    if !s1.frost.blind && blindHolds s1 then toBlind s1 else stageAtScan s1
  else s

/-- A step of the reduction in REDUCE (R99) or PREHEAT (R101), from the latest scan's readings. -/
def stepReduction (s : State) : Nat :=
  let r := s.frost.reduction
  match s.frost.stage with
  | .reduce =>
    if exhaustBelow s s.frost.tLim then min 60 (r + 10)
    else if exhaustFrom s (s.frost.tLim + 10) then r - 10
    else r
  | .preheat =>
    if exhaustFrom s s.frost.tLim then r - 10
    else if exhaustBelow s (s.frost.tLim - 10) && seconds 300 ≤ s.frost.preheatOn then min 60 (r + 10)
    else r
  | .clear => r
  | .watch => r
  | .stop => r

/-- The step timer's expiry (R96, R99, R101): a step down from 60 stops the stop timer; in REDUCE a step to 0 ends in
WATCH with the place given up. -/
def frostStepTimer (s : State) : State :=
  let r := stepReduction s
  if s.frost.stage = .reduce && r = 0 && s.frost.reduction ≠ 0 then giveUp (toWatch s)
  else { s with frost := { s.frost with
    reduction := r, stepTimer := some stepTicks,
    stopTimer := if r < s.frost.reduction && s.frost.reduction = 60 then none else s.frost.stopTimer } }

/-- The end of the thaw (R106). -/
def endThaw (s : State) : State :=
  if baseMode s.mode = .off then toClear s
  else if blindHolds s then toBlind s
  else toWatch s

end Sys2Proof.Machine
end

