-- ==== Sys2Proof/Machine/QueueOps.lean ====
section
/-! DEFINITION. The queue copy: order, aging, TAKE and GIVE in every copy state, what a round report corrects, departures,
hold timers and the copy's round tick (Chapter 7). -/

namespace Sys2Proof.Machine

/-! ### Order and aging (R116, R131) -/

/-- Whether entry a stands before entry b: farther back, or at the same distance with the lower station number (R116). -/
def entryBefore (n : Byte) (a b : Entry) : Bool :=
  serialDistance n b.serial < serialDistance n a.serial
    || (serialDistance n a.serial = serialDistance n b.serial && a.station < b.station)

/-- An entry put into its place by age. -/
def insertEntry (n : Byte) (e : Entry) : List Entry → List Entry
  | [] => [e]
  | x :: xs => if entryBefore n e x then e :: x :: xs else x :: insertEntry n e xs

/-- The entries of all stations but j. -/
def withoutStation (j : Station) (entries : List Entry) : List Entry := entries.filter (fun e => e.station ≠ j)

/-- An insertion first removes any entry the station already has (R115). -/
def placeEntry (n : Byte) (e : Entry) (entries : List Entry) : List Entry :=
  insertEntry n e (withoutStation e.station entries)

/-- The entries put in the order of R116. -/
def orderEntries (n : Byte) (entries : List Entry) : List Entry := entries.foldr (insertEntry n) []

/-- The removal at the end of REBUILD: entries with a distance back of 240 or more go (R120). -/
def agedEntries (n : Byte) (entries : List Entry) : List Entry :=
  entries.filter (fun e => serialDistance n e.serial < 240)

def entryOf (q : Queue) (j : Station) : Option Entry := q.entries.find? (fun e => e.station = j)

/-- Serial aging when N moves from n on to v (R131): an entry goes when its distance back, counted through every serial N
passes, is 240 or more, so that it is gone before the distance could wrap round past 255 (R116; log 23). -/
def agedPast (n v : Byte) (entries : List Entry) : List Entry :=
  entries.filter (fun e => serialDistance n e.serial + serialDistance v n < 240)

/-- N moved on to v, with serial aging (R131). -/
def Queue.advance (q : Queue) (v : Byte) : Queue :=
  { q with n := v, nSet := true, entries := agedPast q.n v q.entries }

/-- A gap or a correction (R118). -/
def Queue.doubted (q : Queue) : Queue := { q with state := .unsure, confirm := 2 }

/-- The start of REBUILD (R118). -/
def Queue.toRebuild (q : Queue) : Queue :=
  { q with entries := [], n := 0, nSet := false, state := .rebuild, rebuild := 2, confirm := 0 }

/-- Entry removed (R123, R126, R129). -/
def Queue.drop (q : Queue) (j : Station) : Queue := { q with entries := withoutStation j q.entries }

/-! ### TAKE (R119, R121) -/

/-- How a TAKE's serial is judged against N (R121). -/
inductive TakeBand where
  | current
  | ahead
  | stale
  | far
deriving DecidableEq, Repr

def takeBand (t : Terms) (n serial : Byte) : TakeBand :=
  let d := serialDistance serial n
  if d = 0 then .current
  else if d ≤ t.ahead then .ahead
  else if 256 - t.behind ≤ d then .stale
  else .far

def freshEntry (j : Station) (serial : Byte) : Entry := { station := j, serial := serial, shadow := none, hold := 0 }

/-- A current or ahead TAKE: N moves past it, the entry enters (R121). -/
def Queue.accept (q : Queue) (j : Station) (serial : Byte) : Queue :=
  let q1 := q.advance (serial + 1)
  { q1 with entries := placeEntry q1.n (freshEntry j serial) q1.entries }

/-- N raised to v in REBUILD (R119). -/
def Queue.raiseTo (q : Queue) (v : Byte) : Queue :=
  if !q.nSet || (1 ≤ serialDistance v q.n && serialDistance v q.n ≤ 127) then { q with n := v, nSet := true } else q

/-- A serial at or ahead of N in REBUILD raises N past itself (R119). -/
def Queue.raisePast (q : Queue) (serial : Byte) : Queue :=
  if !q.nSet || serialDistance serial q.n ≤ 127 then q.raiseTo (serial + 1) else q

/-- A TAKE in REBUILD (R119). -/
def Queue.collect (q : Queue) (j : Station) (serial : Byte) : Queue :=
  Queue.raisePast { q with entries := withoutStation j q.entries ++ [freshEntry j serial] } serial

/-- A TAKE in SYNCED or UNSURE that is not far (R121). -/
def Queue.takeNear (q : Queue) (t : Terms) (j : Station) (serial : Byte) : Queue :=
  match takeBand t q.n serial with
  | .current => if (entryOf q j).isSome then (q.accept j serial).doubted else q.accept j serial
  | .ahead => (q.accept j serial).doubted
  | .stale => { q with stale := min 255 (q.stale + 1) }
  | .far => q

/-- A lockout (R122): a GIVE for the own entry, or a pending own TAKE withdrawn, then REBUILD and QUEUE_LOCKOUT. -/
def lockout (s : State) : State :=
  let s1 :=
    match ownEntry s with
    | some e => requestGive { s with own := { s.own with leaving := some e.serial } }
    | none => s
  let s2 :=
    if s1.out.take then { s1 with out := { s1.out with take := false }, own := { s1.own with outstanding := false } } else s1
  raise .queueLockout { s2 with queue := s2.queue.toRebuild }

/-- A TAKE applied to the queue copy (R119, R121). -/
def queueTake (j : Station) (serial : Byte) (s : State) : State :=
  if s.queue.state = .rebuild then { s with queue := s.queue.collect j serial }
  else if takeBand s.join.terms s.queue.n serial = .far then lockout s
  else { s with queue := s.queue.takeNear s.join.terms j serial }

/-! ### GIVE (R119, R123) -/

def Queue.give (q : Queue) (j : Station) (serial : Byte) : Queue :=
  if q.state = .rebuild then q.drop j
  else match entryOf q j with
    | none => { q with late := min 255 (q.late + 1) }
    | some e => if e.serial = serial then q.drop j else (q.drop j).doubted

/-- A GIVE applied to the queue copy. -/
def queueGive (j : Station) (serial : Byte) (s : State) : State := { s with queue := s.queue.give j serial }

/-! ### Round reports (R119, R124, R125) -/

/-- The reported N in SYNCED and UNSURE, used when the sender's copy is SYNCED (R125). -/
def Queue.reportN (q : Queue) (t : Terms) (r : Report) : Queue :=
  if r.copyState = .synced then
    let d := serialDistance r.n q.n
    if d = 0 || 128 ≤ d then q
    else if d ≤ t.ahead then (q.advance r.n).doubted
    else q.doubted
  else q

/-- An entry inserted or given another serial by a report: N first moves past a missed TAKE; an entry too far back is not
made (R124). An entry of the sender's that this move of N ages out (R131) still gives the entry placed its hold elapsed: the
model's choice (log 38). -/
def Queue.place (q : Queue) (t : Terms) (e : Entry) : Queue :=
  let q1 := if serialDistance e.serial q.n ≤ t.ahead then q.advance (e.serial + 1) else q
  if 240 ≤ serialDistance q1.n e.serial then (q1.drop e.station).doubted
  else Queue.doubted { q1 with entries := placeEntry q1.n e q1.entries }

/-- The own-entry fields of a report (R124). -/
def Queue.reportEntry (q : Queue) (t : Terms) (j : Station) (r : Report) : Queue :=
  if r.entryPresent then
    match entryOf q j with
    | none => q.place t (freshEntry j r.entrySerial)
    | some e =>
      if e.serial = r.entrySerial then
        { q with entries := q.entries.map (fun x => if x.station = j then { x with shadow := none } else x) }
      else q.place t { e with serial := r.entrySerial, shadow := none }
  else
    match entryOf q j with
    | none => q
    | some _ => (q.drop j).doubted

/-- A usable report in REBUILD (R119): its N unless its sender is in REBUILD, then its own-entry fields. -/
def Queue.reportRebuild (q : Queue) (j : Station) (r : Report) : Queue :=
  let q1 := if r.copyState = .rebuild then q else q.raiseTo r.n
  if r.entryPresent then
    match entryOf q1 j with
    | none => Queue.raisePast { q1 with entries := q1.entries ++ [freshEntry j r.entrySerial] } r.entrySerial
    | some _ =>
      Queue.raisePast
        { q1 with entries :=
            (q1.entries.map (fun x => if x.station = j then { x with serial := r.entrySerial } else x)) } r.entrySerial
  else q1.drop j

def Queue.report (q : Queue) (t : Terms) (j : Station) (r : Report) : Queue :=
  if q.state = .rebuild then q.reportRebuild j r else (q.reportN t r).reportEntry t j r

/-- A usable STATUS as the preheat queue takes it (R124). -/
def queueReport (j : Station) (r : Report) (s : State) : State :=
  { s with queue := s.queue.report s.join.terms j r }

/-! ### Departures and SHADOW entries (R119, R129) -/

/-- A departure told at the given round tick. -/
def Queue.depart (q : Queue) (tick : Nat) (j : Station) : Queue :=
  if q.state = .rebuild then q.drop j
  else { q with entries := q.entries.map (fun x => if x.station = j then { x with shadow := some tick } else x) }

/-- Whether an entry is SHADOW since an earlier round tick than the given one. -/
def Entry.shadowBefore (e : Entry) (tick : Nat) : Bool :=
  match e.shadow with
  | none => false
  | some t => t < tick

/-- SHADOW entries removed at the first later round tick (R129). -/
def Queue.dropShadows (q : Queue) (tick : Nat) : Queue :=
  { q with entries := q.entries.filter (fun e => !e.shadowBefore tick) }

/-! ### The copy's round tick (R118, R120) -/

/-- The end of REBUILD (R120). -/
def Queue.endRebuild (q : Queue) : Queue :=
  let n := if q.nSet then q.n else 0
  { q with n := n, nSet := true, state := .synced, rebuild := 0, confirm := 0,
           entries := (orderEntries n (agedEntries n q.entries)).map (fun e => { e with hold := 0 }) }

/-- The end of UNSURE (R118). -/
def Queue.endConfirm (q : Queue) : Queue := { q with state := .synced, confirm := 0 }

/-- The running countdown lowered by one round tick (R118); a rebuild countdown of 0 is not running (R115). -/
def Queue.countDown (q : Queue) : Queue :=
  match q.state with
  | .rebuild =>
    if q.rebuild = 0 then q
    else if q.rebuild = 1 then q.endRebuild
    else { q with rebuild := q.rebuild - 1 }
  | .unsure => if q.confirm ≤ 1 then q.endConfirm else { q with confirm := q.confirm - 1 }
  | .synced => q

/-- The queue's work for a round tick: SHADOW entries of earlier ticks leave, the countdown runs. -/
def queueTick (tick : Nat) (s : State) : State :=
  { s with queue := (s.queue.dropShadows tick).countDown }

/-! ### Hold timers (R126, R127) -/

/-- An entry's hold elapsed time reaches the limit: it is removed; the own one is a hold overrun. -/
def expireHold (j : Station) (s : State) : State :=
  let s1 := { s with queue := s.queue.drop j }
  if isOwn s j then startReTake (raise .holdOverrun s1) else s1

/-- The entries whose hold elapsed stands at or above the hold limit in force. -/
def heldTooLong (s : State) : List Station :=
  (s.queue.entries.filter (fun e => decide (seconds s.join.terms.holdLimit ≤ e.hold))).map Entry.station

/-- New terms in force: entries already at or above the new hold limit are removed (R126). -/
def expireOverdue (s : State) : State := (heldTooLong s).foldl (fun t j => expireHold j t) s

/-- One tick of the hold timers: granted entries count (R126). -/
def countHolds (s : State) : State :=
  { s with queue := { s.queue with
      entries := s.queue.entries.map (fun e => if granted s e.station then { e with hold := e.hold + 1 } else e) } }

end Sys2Proof.Machine
end

