-- ==== Sys2Proof/Machine/HumidOps.lean ====
section
/-! DEFINITION. The humidity monitor: samples, minutes and judgements (Chapter 8). -/

namespace Sys2Proof.Machine

/-- Rise (R142): at least three averages, the newest 50 or more and 5 or more above the third item. -/
def rises (ring : List Nat) : Bool :=
  match ring with
  | newest :: _ :: earlier :: _ => 50 ≤ newest && earlier + 5 ≤ newest
  | _ => false

/-- High (R142): the newest is at or above the upper band. -/
def high (t : Terms) (ring : List Nat) : Bool :=
  match ring with
  | newest :: _ => t.humidUpper ≤ newest
  | [] => false

/-- The newest average is at or below the lower band (R144). -/
def low (t : Terms) (ring : List Nat) : Bool :=
  match ring with
  | newest :: _ => newest ≤ t.humidLower
  | [] => false

def Humid.toIdle (h : Humid) : Humid := { h with state := .idle, boostMinutes := 0, restMinutes := 0 }

/-- The hour is full: BOOST to REST (R144). -/
def Humid.toRest (h : Humid) : Humid := { h with state := .rest, boostMinutes := 0, restMinutes := 0 }

def Humid.toBoost (h : Humid) : Humid := { h with state := .boost, boostMinutes := 0, restMinutes := 0 }

/-- The judgement of the current state at a humidity minute (R143, R144, R145). -/
def Humid.judge (t : Terms) (h : Humid) : Humid :=
  match h.state with
  | .idle => if !h.frostStop && (rises h.ring || high t h.ring) then h.toBoost else h
  | .boost =>
    let m := h.boostMinutes + 1
    if 60 ≤ m then h.toRest
    else if 10 ≤ m && low t h.ring && !rises h.ring then h.toIdle
    else { h with boostMinutes := m }
  | .rest =>
    let m := h.restMinutes + 1
    if 30 ≤ m then h.toIdle else { h with restMinutes := m }

/-- A minute completes with its thirtieth sample (R141). -/
def Humid.minute (t : Terms) (sample : Nat) (h : Humid) : Humid :=
  Humid.judge t { h with sum := 0, count := 0, ring := ((h.sum + sample) / 30 :: h.ring).take 10 }

/-- A sample (R140, R141). -/
def Humid.sample (t : Terms) (sample : Nat) (h : Humid) : Humid :=
  if 29 ≤ h.count then h.minute t sample else { h with sum := h.sum + sample, count := h.count + 1 }

/-- The H_e reading as a sample, while the channel is VALID (R140). -/
def humiditySample (s : State) : Option Nat := s.sensors.hE.value.map Int.toNat

/-- A scan as the monitor takes it (R140, R146). -/
def humidScan (s : State) : State :=
  match humiditySample s with
  | some x => { s with humid := s.humid.sample s.join.terms x }
  | none =>
    if s.sensors.hE.state = .invalid then
      { s with humid := { s.humid.toIdle with sum := 0, count := 0, ring := [] } }
    else { s with humid := { s.humid with sum := 0, count := 0 } }

/-- The frost stage as the monitor takes it (R147): STOP forces IDLE. -/
def noticeStop (s : State) : State :=
  if s.frost.stage = .stop then { s with humid := { s.humid.toIdle with frostStop := true } }
  else { s with humid := { s.humid with frostStop := false } }

end Sys2Proof.Machine
end

