-- ==== Sys2Proof/Machine/FilterOps.lean ====
section
/-! DEFINITION. The filter records, notices, balance trim and nonvolatile record (Chapter 9). -/

namespace Sys2Proof.Machine

def filterOf (s : State) : Side → Filter
  | .supply => s.filters.supply
  | .extract => s.filters.extract

def setFilter (s : State) (side : Side) (f : Filter) : State :=
  match side with
  | .supply => { s with filters := { s.filters with supply := f } }
  | .extract => { s with filters := { s.filters with extract := f } }

/-! ### State and notices (R152, R157, R158) -/

/-- Life in percent: a thousand m³ is 30000 flow-unit-minutes (R152). -/
def filterLife (t : Terms) (f : Filter) : Nat := f.used * 100 / (t.filterLife * 30000)

/-- Group due (R157): life 85 percent or more, at least one peer held, and at least half of them, rounded up, due. -/
def groupDue (s : State) (f : Filter) : Bool :=
  85 ≤ filterLife s.join.terms f && 2 ≤ presenceCount s
    && presenceCount s / 2 ≤ (heldReports s).countP Report.filterDue

/-- The state formed from the fields (R152). -/
def formedState (s : State) (f : Filter) : FilterState :=
  let life := filterLife s.join.terms f
  if 125 ≤ life then .overdue
  else if f.unknown then .unknown
  else if 100 ≤ life || 130 ≤ f.clog.getD 0 || groupDue s f then .due
  else if f.reference.isSome then .inService
  else .learning

/-- The states that ask for attention (R158). -/
def FilterState.needsCare (x : FilterState) : Bool := x = .due || x = .overdue || x = .unknown

/-- A record with its state formed again; its notice flag is raised on entry to a state that needs care (R158). -/
def Filter.formed (f : Filter) (x : FilterState) : Filter :=
  { f with state := x, notice := f.notice || (x ≠ f.state && x.needsCare) }

/-- Whether a notice flag has passed from clear to raised. -/
def newNotice (before after : Filters) : Bool :=
  (!before.supply.notice && after.supply.notice) || (!before.extract.notice && after.extract.notice)

/-- The filter unit's new records, with FILTER_NOTICE for each flag newly raised (R158). -/
def setFilters (s : State) (f : Filters) : State := raiseIf (newNotice s.filters f) .filterNotice { s with filters := f }

/-- Both states formed again (R152). -/
def formStates (s : State) : State :=
  setFilters s { s.filters with
    supply := s.filters.supply.formed (formedState s s.filters.supply),
    extract := s.filters.extract.formed (formedState s s.filters.extract) }

/-- The flag raised for a record found to need care (R158: at an hour mark and at the restore). -/
def Filter.reminded (f : Filter) : Filter := { f with notice := f.notice || f.state.needsCare }

def remind (s : State) : State :=
  setFilters s { s.filters with supply := s.filters.supply.reminded, extract := s.filters.extract.reminded }

/-- The STATUS fields (R30, R32). -/
def filterDue (s : State) : Bool := s.filters.supply.state.needsCare || s.filters.extract.state.needsCare

def reportedLife (s : State) : Nat :=
  min 255 (max (filterLife s.join.terms s.filters.supply) (filterLife s.join.terms s.filters.extract))

/-! ### Saving (R163) -/

def Filter.saved (f : Filter) : NvFilter :=
  { used := f.used, unknown := f.unknown, reference := f.reference, learnMinutes := f.learnMinutes, learnSum := f.learnSum,
    clog := f.clog }

/-- The working record as a save writes it. -/
def workingRecord (s : State) : NvContent :=
  { supply := s.filters.supply.saved, extract := s.filters.extract.saved, trim := s.filters.trim }

/-- A save requested (R163). -/
def requestSave (s : State) : State :=
  match s.filters.save with
  | .idle => { s with filters := { s.filters with save := .writing (workingRecord s) } }
  | .writing c => { s with filters := { s.filters with save := .queued c } }
  | .queued _ => s

/-- A write ends; a queued one begins from the working record as it then stands (R163). -/
def endWrite (s : State) : State :=
  match s.filters.save with
  | .idle => s
  | .writing c => { s with nv := Nv.ofContent c, filters := { s.filters with save := .idle } }
  | .queued c => { s with nv := Nv.ofContent c, filters := { s.filters with save := .writing (workingRecord s) } }

/-- The check byte of a torn record: the free value, or its successor where that would agree (R163: a bad check; log 8). -/
def tornByte (agrees : Byte) (n : Nat) : Byte :=
  if Config.tornCheck n = agrees then Config.tornCheck n + 1 else Config.tornCheck n

/-- The record after power or reset cuts off whatever write is in flight (R163, R182). With a write queued behind it the one
in flight is cut off all the same, and the record has a bad check: the model's choice (log 36). -/
def cutWrite (s : State) : Nv × Nat :=
  match s.filters.save with
  | .idle => (s.nv, s.torn)
  | .writing _ => ({ s.nv with check := tornByte (checkByte s.nv.content.bytes) s.torn }, s.torn + 1)
  | .queued _ => ({ s.nv with check := tornByte (checkByte s.nv.content.bytes) s.torn }, s.torn + 1)

/-! ### Balance trim (R160, R161, R162) -/

/-- The conditions that events make fail (R160). -/
def unsteady (s : State) : Bool :=
  boosting s || s.frost.stage ≠ .clear || s.supplyFan.state ≠ .running || s.extractFan.state ≠ .running

/-- The temperatures of the latest scan, when all four are VALID: T_o, T_s, T_e, T_x. -/
def temperatures (s : State) : Option (Int × Int × Int × Int) :=
  match s.sensors.tO.value, s.sensors.tS.value, s.sensors.tE.value, s.sensors.tX.value with
  | some o, some su, some e, some x => some (o, su, e, x)
  | _, _, _, _ => none

/-- The conditions that a scan judges (R160): a temperature not VALID, or T_e − T_o below 100. -/
def scanUnsteady (s : State) : Bool :=
  match temperatures s with
  | none => true
  | some (o, _, e, _) => e - o < 100

/-- The change of trim a clean period asks for (R161). -/
def trimChange (s : State) : Int :=
  match temperatures s with
  | none => 0
  | some (o, su, e, x) =>
    let figure := 100 * ((su - o) - (e - x))
    if 3 * (e - o) < figure then 1 else if figure < -3 * (e - o) then -1 else 0

/-- The trim within its range: a step that would leave it is not taken (R161). -/
def trimStepped (trim change : Int) : Int :=
  if -32 ≤ trim + change && trim + change ≤ 31 then trim + change else trim

/-- The end of a trim period (R161); the next one begins spoiled if a condition fails at that moment (R160). -/
def endPeriod (s : State) : State :=
  let trim := if s.filters.spoiled then s.filters.trim else trimStepped s.filters.trim (trimChange s)
  { s with filters := { s.filters with
      trim := trim, fromFloor := s.filters.fromFloor && trim = s.filters.trim, period := 0,
      spoiled := unsteady s || scanUnsteady s } }

/-- The trim restarts at the trim floor (R162; log 10). -/
def restartTrim (s : State) : State :=
  { s with filters := { s.filters with trim := s.join.terms.trimFloor, fromFloor := true, spoiled := true } }

/-- New terms in force: a trim that still carries the mark takes the new floor (R162). -/
def refloorTrim (s : State) : State :=
  if s.filters.fromFloor then { s with filters := { s.filters with trim := s.join.terms.trimFloor } } else s

/-- A scan in JOINED as the filter unit takes it (R160). -/
def trimScan (s : State) : State :=
  if s.join.membership = .joined && scanUnsteady s then { s with filters := { s.filters with spoiled := true } } else s

/-! ### Accounting minutes (R153 to R156) -/

/-- The minute ratio (R154). -/
def minuteRatio (f : Fan) : Nat := min 65535 (f.duty * 1024 / f.measured)

/-- Whether the minute that ends qualifies (R154); a measured speed of 0 lies outside 5 percent of any target (log 20). -/
def minuteQualifies (kept : Bool) (f : Fan) : Bool := kept && f.state = .running && 0 < f.measured

/-- Used flow (R153). -/
def Filter.passed (f : Filter) (fan : Fan) : Filter :=
  if fan.state = .running then { f with used := min 4294967295 (f.used + fan.targetFlow) } else f

/-- A learning minute; the 1440th sets the reference (R155). -/
def Filter.learn (f : Filter) (ratio : Nat) : Filter :=
  let sum := f.learnSum + ratio
  if 1440 ≤ f.learnMinutes + 1 then { f with reference := some (sum / 1440), learnMinutes := 1440, learnSum := 0 }
  else { f with learnMinutes := f.learnMinutes + 1, learnSum := sum }

/-- A qualifying minute: learning while the reference is absent, the hour's sum once it is present (R155, R156). -/
def Filter.qualified (f : Filter) (ratio : Nat) : Filter :=
  match f.reference with
  | none => f.learn ratio
  | some _ => { f with hourMinutes := f.hourMinutes + 1, hourSum := f.hourSum + ratio }

def Filter.account (f : Filter) (fan : Fan) (kept : Bool) : Filter :=
  if minuteQualifies kept fan then (f.passed fan).qualified (minuteRatio fan) else f.passed fan

/-- The hour closed: the clog index from 30 or more minutes (R156). -/
def Filter.closeHour (f : Filter) : Filter :=
  { f with hourMinutes := 0, hourSum := 0,
           clog := match f.reference with
             | none => f.clog
             | some r =>
               if 30 ≤ f.hourMinutes then some (min 65535 (r * 100 / (f.hourSum / f.hourMinutes))) else f.clog }

/-- The hour mark's work: clog index, states, hourly notice, save, in that order (R156). -/
def closeHours (s : State) : State :=
  requestSave (remind (formStates { s with filters := { s.filters with
    supply := s.filters.supply.closeHour, extract := s.filters.extract.closeHour, minuteCount := 0 } }))

/-- The end of an accounting minute (R153 to R156, R160). -/
def accountMinute (s : State) : State :=
  let s1 := { s with filters := { s.filters with
    supply := s.filters.supply.account s.supplyFan s.filters.supplyMinute,
    extract := s.filters.extract.account s.extractFan s.filters.extractMinute,
    supplyMinute := s.supplyFan.state = .running, extractMinute := s.extractFan.state = .running,
    minuteTimer := some accountingTicks } }
  let s2 :=
    if 59 ≤ s.filters.minuteCount then closeHours s1
    else formStates { s1 with filters := { s1.filters with minuteCount := s.filters.minuteCount + 1 } }
  if 14 ≤ s.filters.period then endPeriod s2
  else { s2 with filters := { s2.filters with period := s.filters.period + 1 } }

/-- The marks that follow the fans and the plan at every moment: a spoiled period (R160), minutes that cannot qualify
any more (R154). -/
def followMarks (s : State) : State :=
  { s with filters := { s.filters with
      spoiled := s.filters.spoiled || unsteady s,
      supplyMinute := s.filters.supplyMinute && s.supplyFan.state = .running,
      extractMinute := s.filters.extractMinute && s.extractFan.state = .running } }

/-! ### Resetting and restoring (R159, R164) -/

/-- A record after FILTER_RESET (R159). -/
def Filter.fresh : Filter := Filter.start

/-- FILTER_RESET of one filter (R159): the record, the trim at its floor, a save. -/
def resetFilter (side : Side) (s : State) : State :=
  let s1 := setFilter s side .fresh
  requestSave (restartTrim (setFilter s1 side ((filterOf s1 side).formed (formedState s1 (filterOf s1 side)))))

/-- A record read back (R164). -/
def NvFilter.restored (n : NvFilter) : Filter :=
  { Filter.start with used := n.used, unknown := n.unknown, reference := n.reference, learnMinutes := n.learnMinutes,
                      learnSum := n.learnSum, clog := n.clog }

/-- A record whose history was lost (R164). -/
def Filter.lost : Filter := { Filter.start with unknown := true }

/-- The restore (R164): the fields read back, or UNKNOWN filters, the trim at its floor, NV_LOST and a save; then the states
are formed and the notices raised. -/
def restoreRecord (s : State) : State :=
  if s.nv.good then
    remind (formStates { s with filters := { s.filters with
      supply := s.nv.content.supply.restored, extract := s.nv.content.extract.restored, trim := s.nv.content.trim,
      restored := true } })
  else
    remind (formStates (requestSave (restartTrim (raise .nvLost { s with filters := { s.filters with
      supply := .lost, extract := .lost, restored := true } }))))

end Sys2Proof.Machine
end

