-- ==== Sys2Proof/Machine/ClockOps.lean ====
section
/-! DEFINITION. Terrace time and the schedule (Chapter 10). -/

namespace Sys2Proof.Machine

/-- The seconds of a week. -/
def weekSeconds : Nat := 604800

/-- Whether an entry matches the minute of a time of week (R165, R172). -/
def SchedEntry.fires (e : SchedEntry) (t : Nat) : Bool :=
  e.days.getLsbD (t / 86400) && (!e.hourOn || e.hour = t % 86400 / 3600) && (!e.minuteOn || e.minute = t % 3600 / 60)

/-- The mode of the highest-indexed entry that matches (R172). -/
def firedMode (entries : List (Option SchedEntry)) (t : Nat) : Option SchedMode :=
  entries.foldl (fun best e =>
    match e with
    | none => best
    | some e => if e.fires t then some e.mode else best) none

/-- A minute evaluation (R172) and the firing as the planner takes it (R60). -/
def evaluateMinute (s : State) : State :=
  match firedMode s.clock.schedule.toList s.clock.time with
  | none => s
  | some m => { s with mode := { s.mode with scheduled := some m, held := none } }

/-- The clock runs into the next minute (R166, R172). -/
def enterMinute (s : State) : State :=
  evaluateMinute { s with clock := { s.clock with time := (s.clock.time / 60 + 1) * 60 % weekSeconds, sub := 0 } }

/-- Whether the oscillator's next advance enters a new minute (R166). -/
def minuteDue (s : State) : Bool := s.clock.withhold = 0 && 63 ≤ s.clock.sub && (s.clock.time + 1) % 60 = 0

/-- One advance of the sub-second count (R166). -/
def advanceClock (s : State) : State :=
  if s.clock.sub < 63 then { s with clock := { s.clock with sub := s.clock.sub + 1 } }
  else if (s.clock.time + 1) % 60 = 0 then enterMinute s
  else { s with clock := { s.clock with time := s.clock.time + 1, sub := 0 } }

/-- The oscillator's advance, or one withheld by the slew (R169). -/
def oscillate (s : State) : State :=
  if s.clock.withhold = 0 then advanceClock s
  else { s with clock := { s.clock with withhold := s.clock.withhold - 1 } }

/-- The slew's work of one second (R169). -/
def slewOnce (s : State) : State :=
  if 0 < s.clock.slew then
    let s1 := advanceClock s
    { s1 with clock := { s1.clock with slew := s1.clock.slew - 1 } }
  else if s.clock.slew < 0 then
    { s with clock := { s.clock with slew := s.clock.slew + 1, withhold := s.clock.withhold + 1 } }
  else s

/-- The clock set to a time (R168, R170); the landing minute is evaluated when it differs (R173). -/
def setClock (time sub : Nat) (s : State) : State :=
  let s1 := { s with clock := { s.clock with time := time, sub := sub, slew := 0, withhold := 0 } }
  if time / 60 = s.clock.time / 60 then s1 else evaluateMinute s1

/-- The source station (R167): the lowest station held that is lower than the own number. -/
def sourceNow (s : State) : Option Station :=
  match ownNumber s with
  | none => none
  | some own => allStations.find? (fun j => j < own && (s.peers.records.get j).held)

def formSource (s : State) : State := { s with clock := { s.clock with source := sourceNow s } }

/-- The reported time minus the own, the short way round the week (R168). -/
def timeDifference (reported own : Nat) : Int :=
  let d := ((reported : Int) - own) % 604800
  if 302400 ≤ d then d - 604800 else d

/-- A usable STATUS as the time base takes it (R167, R168). -/
def clockReport (j : Station) (r : Report) (s : State) : State :=
  let s1 := formSource s
  if s1.clock.source = some j then
    let d := timeDifference r.time s1.clock.time
    if d = 0 then s1
    else if -2 ≤ d && d ≤ 2 then
      if s1.clock.slew = 0 then { s1 with clock := { s1.clock with slew := d * 64 } } else s1
    else setClock r.time 32 s1
  else s1

end Sys2Proof.Machine
end

