-- ==== Sys2Proof/Machine/Settle.lean ====
section
/-! DEFINITION. What every event ends with: the notices the blocks owe one another, taken until nothing is left to tell
(R64, R79, R114, R135; log 6), and the two starts. -/

namespace Sys2Proof.Machine

/-- The preheat queue tells a change of the own eligibility, and the frost guard takes it (R100, R103, R135). -/
def noticeEligibility (s : State) : State :=
  if eligibleNow s = s.own.eligible then s
  else
    let s1 := { s with own := { s.own with eligible := eligibleNow s } }
    if eligibleNow s then
      if s.frost.stage = .reduce && !s.frost.blind then reduceEligible s1 else s1
    else if s.frost.stage = .preheat then preheatLost s1 else s1

/-- The frost guard sees the supply fan out of STARTING and RUNNING in PREHEAT (R104). -/
def noticeFan (s : State) : State :=
  if s.frost.stage = .preheat && !supplyMoves s then giveUp (preheatToReduce s) else s

/-- The preheater output (R110). -/
def followPreheater (s : State) : State :=
  { s with frost := { s.frost with
      preheater := s.frost.stage = .preheat && s.supplyFan.state = .running && eligibleNow s } }

/-- One round of notices: eligibility, supply fan, request for a place, frost STOP, plan, fan targets. -/
def noticeRound (s : State) : State :=
  handTargets (compose (noticeStop (requestTake (noticeFan (noticeEligibility s)))))

/-- The outputs that follow the state at every moment: preheater, filter marks, indicator. -/
def followOutputs (s : State) : State := followLamp (followMarks (followPreheater s))

/-- The end of an event. Four rounds leave nothing to tell: the first takes the event's change, the second a fan that
stopped or failed by it, the third the plan with that fan, the fourth is the check that nothing moves (log 6). -/
def settle (s : State) : State :=
  followOutputs (noticeRound (noticeRound (noticeRound (noticeRound s))))

/-! ### Starts (R43, R68, R187) -/

/-- A fan across a restart (R68). -/
def Fan.restarted (f : Fan) : Fan :=
  if f.state = .failed || (f.state = .stalled && f.attempts = 5) then
    { Fan.start with state := .failed, attempts := f.attempts }
  else { Fan.start with attempts := f.attempts }

/-- The filter unit across a restart (R151, R163): a write in flight or queued runs on, and the working record stands until
the restore, so that a queued write carries it (log 9). -/
def Filters.restarted (f : Filters) : Filters :=
  { Filters.start with
    supply := { f.supply with hourMinutes := 0, hourSum := 0, notice := false },
    extract := { f.extract with hourMinutes := 0, hourSum := 0, notice := false },
    trim := f.trim, save := f.save }

/-- A restart takes effect (R56, R187): the failed fans, the attempts, the schedule, the event flags and the nonvolatile
record with its writes are kept; everything else starts as at power-on. -/
def restartNow (s : State) : State :=
  let supply := s.supplyFan.restarted
  let extract := s.extractFan.restarted
  followOutputs (composeOnce (raiseIf (newlyFailed s.supplyFan supply || newlyFailed s.extractFan extract) .fanFailed
    { State.reset with
      supplyFan := supply, extractFan := extract, filters := s.filters.restarted, nv := s.nv, torn := s.torn,
      clock := { Clock.start with schedule := s.clock.schedule }, events := s.events, pending := s.pending }))

/-- A power-on start (R43, R182): nothing is kept but the nonvolatile record; a write still in flight is cut off. -/
def powerOnNow (s : State) : State :=
  { State.reset with nv := (cutWrite s).1, torn := (cutWrite s).2, pending := s.pending }

end Sys2Proof.Machine
end

