-- ==== Sys2Proof/Machine/LineOps.lean ====
section
/-! DEFINITION. Line conditions, the error count, the building and the taking of frames (Chapters 1 to 3), and the outcome
of a command. -/

namespace Sys2Proof.Machine

/-- What a command answers. -/
abbrev Result := Host.Outcome State Fault Refusal

/-- A command reaches a running station only; held by reset or without power, the station does nothing (R182; log 17). -/
def live (s : State) (f : State → State) : Result := .next (if s.power = .running then f s else s)

/-! ### Conditions (R17, R20, R22) -/

/-- The pending TAKE and TEST withdrawn, the queue and the run told (R17, R23). -/
def withdrawForDoubt (s : State) : State :=
  { s with
    out := { s.out with take := false, test := false }
    own := { s.own with outstanding := s.own.outstanding && !s.out.take }
    line := { s.line with run := if s.out.test then none else s.line.run } }

/-- Every pending frame withdrawn, each owner told (R17, R23, R136). -/
def withdrawAll (s : State) : State :=
  { s with
    out := .empty
    own := { s.own with outstanding := s.own.outstanding && !s.out.take
                        leaving := if s.out.give then none else s.own.leaving }
    line := { s.line with run := if s.out.test then none else s.line.run } }

def setCondition (c : LineCondition) (s : State) : State := { s with line := { s.line with condition := c } }

/-- Entry to DOUBT (R20): a change of line condition is an occasion for an evaluation (R87). -/
def enterDoubt (s : State) : State := evaluate (raise .lineDoubt (withdrawForDoubt (setCondition .doubt s)))

/-- DOUBT back to CLEAR (R20). -/
def leaveDoubt (s : State) : State := evaluate (setCondition .clear s)

/-- Entry to STUCK (R20). -/
def enterStuck (s : State) : State := evaluate (raise .lineStuck (withdrawAll (setCondition .stuck s)))

/-- Entry to MUTED with its cause; a second cause changes nothing recorded (R22). -/
def enterMuted (cause : MutedCause) (s : State) : State :=
  if s.line.condition = .muted then withdrawAll s
  else
    let s1 := { s with line := { s.line with condition := .muted, cause := cause } }
    evaluate (raise .muted (withdrawAll s1))

/-- The end of an event that changed the line: a restart that waits for a GIVE takes effect when the line condition has
withdrawn it (R187). -/
def afterLine (giveGone : Bool) (s : State) : State :=
  if giveGone && s.panel.restartWait.isSome then restartNow s else settle s

/-! ### The error count (R19, R20) -/

def errorUp (s : State) : State :=
  let s1 := { s with line := { s.line with errors := min 31 (s.line.errors + 1) } }
  if s.line.condition = .clear && s.join.terms.errorThreshold ≤ s1.line.errors then enterDoubt s1 else s1

def errorDown (s : State) : State :=
  let s1 := { s with line := { s.line with errors := s.line.errors - 1 } }
  if s.line.condition = .doubt && s1.line.errors = 0 then leaveDoubt s1 else s1

/-- The line is busy: slot counting has stopped (R4, R9). -/
def busy (s : State) : State := { s with line := { s.line with idle := false, slotTime := none } }

/-- What every valid frame does as it is taken, whoever sent it (R8, R10, R14); the line has been busy with it (log 13). -/
def heard (sender : Station) (s : State) : State :=
  errorDown (busy { s with line := { s.line with lastSender := sender } })

/-- Whether the receiver can form a frame: on, ready, and the station not itself sending (R7, R121). -/
def canReceive (s : State) : Bool := s.line.receiverOn && s.line.receiverReady && s.line.sending.isNone

/-- A valid frame from the line (R8): delivered to its consumer, or, under the station's own number, MUTED as duplicate. -/
def takeFrame (sender : Station) (deliver : State → State) (s : State) : State :=
  if canReceive s then
    let s1 := heard sender s
    if isOwn s sender then afterLine s1.out.give (enterMuted .duplicate s1) else settle (deliver s1)
  else s

/-! ### Frames of the station's own (R11, R12) -/

/-- Whether a TERMS frame of this kind is pending and may be sent. -/
def termsWanted (s : State) : Option Wanted :=
  match s.out.terms with
  | none => none
  | some .query => if permitted s .query then some .query else none
  | some .set => if permitted s .set then some .set else none

/-- The pending frame of the lowest class; of class 3, TERMS before TEST (R11). -/
def nextWanted (s : State) : Option Wanted :=
  if s.out.give && permitted s .give then some .give
  else if s.out.take && permitted s .take then some .take
  else if s.out.status && permitted s .status then some .status
  else match termsWanted s with
    | some w => some w
    | none => if s.out.test && permitted s .test then some .test else none

/-- The sending class (R5). -/
def Wanted.sendingClass : Wanted → Nat
  | .give => 0
  | .take => 1
  | .status => 2
  | .query => 3
  | .set => 3
  | .test => 3

/-- The slot of a class: c × 16 + (own − last sender − 1) mod 16 (R11). -/
def slotOf (own last : Station) (c : Nat) : Nat := c * 16 + (own.val + 31 - last.val) % 16

/-- The station's slot at the present idle, when it has a frame to send (R11). -/
def ownSlot (s : State) : Option Nat :=
  match ownNumber s, nextWanted s with
  | some own, some w => some (slotOf own s.line.lastSender w.sendingClass)
  | _, _ => none

/-- The station's report as its STATUS is built (R27 to R32). -/
def currentReport (s : State) : Report :=
  { mode := s.plan.effective, stage := s.frost.stage, reduction10 := s.frost.reduction / 10, claim := s.plan.extract,
    lineNotClear := s.line.condition = .doubt, backoff := 0 < s.stack.backoff, curbed := s.plan.curbed,
    filterDue := filterDue s, skew := s.join.skew, entryPresent := (ownEntry s).isSome,
    entryGranted := match ownEntry s with
      | none => false
      | some e => granted s e.station,
    copyState := s.queue.state,
    entrySerial := match ownEntry s with
      | none => 0
      | some e => e.serial,
    n := s.queue.n, filterLife := reportedLife s, termsVersion := s.join.terms.version, time := s.clock.time }

/-- What the owner gives for a frame at the start of its sending, or none when it declines (R12, R133, R134). -/
def buildContent (s : State) (w : Wanted) : Option Content :=
  match w with
  | .give =>
    match s.own.leaving, ownEntry s with
    | some serial, _ => some (.give serial)
    | none, some e => some (.give e.serial)
    | none, none => none
  | .take => if s.queue.state = .rebuild || (ownEntry s).isSome then none else some (.take s.queue.n)
  | .status => some (.status (currentReport s))
  | .query => some .termsQuery
  | .set => some (.termsSet s.join.terms)
  | .test => s.line.run.map (fun r => .test r.seed)

/-- A frame out of the set, as its sending begins or its owner withdraws it. -/
def removeWanted (w : Wanted) (out : Outgoing) : Outgoing :=
  match w with
  | .give => { out with give := false }
  | .take => { out with take := false }
  | .status => { out with status := false }
  | .query => { out with terms := none }
  | .set => { out with terms := none }
  | .test => { out with test := false }

/-- A frame declined at send time (R12): with a GIVE a pending own TAKE goes too (R134); the queue clears outstanding. -/
def decline (w : Wanted) (s : State) : State :=
  match w with
  | .give => { s with out := { s.out with give := false, take := false },
                      own := { s.own with outstanding := s.own.outstanding && !s.out.take } }
  | .take => { s with out := { s.out with take := false }, own := { s.own with outstanding := false } }
  | .status => { s with out := removeWanted .status s.out }
  | .query => { s with out := removeWanted .query s.out }
  | .set => { s with out := removeWanted .set s.out }
  | .test => { s with out := removeWanted .test s.out }

/-- The frame that was being sent pending again, with the new pending frame of its kind standing for both (R13, R16). -/
def pendAgain (c : Content) (out : Outgoing) : Outgoing :=
  match c with
  | .give _ => { out with give := true }
  | .take _ => { out with take := true }
  | .status _ => { out with status := true }
  | .termsQuery => { out with terms := some (out.terms.getD .query) }
  | .termsSet _ => { out with terms := some (out.terms.getD .set) }
  | .test _ => { out with test := true }

/-- The tally takes a TEST frame (R24). -/
def Tally.take (t : Tally) (sender : Station) (payload : List Byte) : Tally :=
  let base : Tally := if t.sender = some sender then t else { sender := some sender, received := 0, mismatched := 0 }
  { base with
    received := min 255 (base.received + 1)
    mismatched := if payload = testPattern (payload.headD 0) then base.mismatched else min 255 (base.mismatched + 1) }

def tallyTest (sender : Station) (payload : List Byte) (s : State) : State :=
  { s with line := { s.line with tally := s.line.tally.take sender payload } }

/-- A TEST frame of the run has been sent: one fewer remains, and the next is placed while any does (R23). -/
def runSent (counted : Bool) (s : State) : State :=
  match s.line.run with
  | none => s
  | some r =>
    if !counted then s
    else if r.remaining ≤ 1 then { s with line := { s.line with run := none } }
    else requestTest { s with line := { s.line with run := some { r with remaining := r.remaining - 1 } } }

/-- An own entry has appeared in the copy in a stage that wants none, with no GIVE pending (R108). -/
def entryAppeared (s : State) : State :=
  if (ownEntry s).isSome && !s.out.give && (s.frost.stage ≠ .preheat && (s.frost.stage ≠ .reduce || s.frost.blind)) then
    giveUp s
  else s

/-! ### Terms (R51, R52, R54, R55) -/

/-- The best heard set after a usable set heard in LISTEN (R52). -/
def heardSet (best : Option BestHeard) (sender : Station) (t : Terms) : BestHeard :=
  match best with
  | none => { terms := t, sender := sender, conflict := false }
  | some b =>
    if newerVersion t.version b.terms.version then { terms := t, sender := sender, conflict := false }
    else if t.version = b.terms.version then
      if t.agrees b.terms then (if sender < b.sender then { b with sender := sender } else b)
      else if sender < b.sender then { terms := t, sender := sender, conflict := true }
      else { b with conflict := true }
    else b

/-- The selection at the end of LISTEN: the terms, their source, and whether a conflict is found (R54). -/
def selectTerms (j : Join) : Terms × TermsSource × Bool :=
  let candidate : Terms × TermsSource :=
    match j.panelSet with
    | some p => (p, .panel)
    | none => (Terms.defaults, .defaults)
  let override := match j.straps with
    | some straps => straps.override
    | none => false
  if override then (candidate.1, candidate.2, false)
  else match j.best with
    | none => (candidate.1, candidate.2, false)
    | some b =>
      if newerVersion b.terms.version candidate.1.version then (b.terms, .heard b.sender, b.conflict)
      else if b.terms.version = candidate.1.version then
        (b.terms, .heard b.sender, b.conflict || (j.panelSet.isSome && !candidate.1.agrees b.terms))
      else (candidate.1, candidate.2, false)

/-- Whether a PRESENT or STALE record reports another version (R55). -/
def skewNow (s : State) : Bool := (heldReports s).any (fun r => r.termsVersion ≠ s.join.terms.version)

/-- The terms-skew evaluation in JOINED (R55); a change is an occasion for an evaluation of the stack share (R87). -/
def evaluateSkew (s : State) : State :=
  if s.join.membership = .joined && skewNow s ≠ s.join.skew then
    evaluate (raiseIf (skewNow s) .termsSkew { s with join := { s.join with skew := skewNow s } })
  else s

/-- New terms in the line interface: a threshold at or below E takes CLEAR to DOUBT (R20). -/
def applyThreshold (s : State) : State :=
  if s.line.condition = .clear && s.join.terms.errorThreshold ≤ s.line.errors then enterDoubt s else s

/-- The selected terms put into force and JOINED entered (R47, R54); a pending query is withdrawn. -/
def joinWith (s : State) : State :=
  let choice := selectTerms s.join
  raiseIf choice.2.2 .termsConflict { s with
    join := { s.join with membership := .joined, terms := choice.1, source := choice.2.1, best := none, listenTicks := 3 }
    out := { s.out with terms := if s.out.terms = some .query then none else s.out.terms } }

/-- The end of LISTEN and what follows from the terms coming into force, block by block (R20, R26, R55, R87, R126, R152,
R162). -/
def endListen (s : State) : State :=
  formStates (refloorTrim (evaluate (evaluateSkew (expireOverdue (applyThreshold (requestStatus (joinWith s)))))))

/-! ### Peer records (R35 to R38) -/

/-- The record of a usable report (R35). -/
def recordReport (j : Station) (r : Report) (s : State) : State :=
  { s with peers := { s.peers with
      records := s.peers.records.set j { presence := .present, age := 0, fields := some r } } }

/-- The filter unit takes a STATUS for group due once its restore has been made (R152, R164). -/
def filterReport (s : State) : State := if s.filters.restored then formStates s else s

/-- A usable STATUS handed to its five consumers, the record already updated (R35), in the order in which R35 names them:
the model's choice (log 33). -/
def consumeReport (j : Station) (r : Report) (s : State) : State :=
  filterReport (evaluateSkew (clockReport j r (evaluate (queueReport j r (recordReport j r s)))))

/-- A STATUS from a peer (R35, R36). -/
def deliverStatus (j : Station) (p : StatusBytes) (s : State) : State :=
  match decodeStatus p with
  | none => { s with peers := { s.peers with unusable := min 255 (s.peers.unusable + 1) } }
  | some r => consumeReport j r s

/-- A record one round tick older (R37); an age of 3 is the departure's, told next. -/
def PeerRecord.aged (r : PeerRecord) : PeerRecord :=
  if r.held then
    { r with age := r.age + 1, presence := if 2 ≤ r.age + 1 then .stale else r.presence }
  else r

/-- A departure (R38): the record cleared, then the queue, the stack share unit and the time base told. -/
def depart (j : Station) (s : State) : State :=
  let s1 := { s with peers := { s.peers with records := s.peers.records.set j .cleared } }
  formSource (evaluate { s1 with queue := s1.queue.depart s1.peers.ticks j })

/-- The stations whose records have come to age 3. -/
def departing (s : State) : List Station :=
  allStations.filter (fun j => (s.peers.records.get j).held && decide (3 ≤ (s.peers.records.get j).age))

end Sys2Proof.Machine
end

