-- ==== Sys2Proof/Machine/Fans.lean ====
section
/-! DEFINITION. The meanings of the panel boost's end and of the fans' events (sections 4.1, 4.4 and 4.5). -/

namespace Sys2Proof.Machine

/-- Whether the panel boost is in its last second. A boost set anew in the second in which an old one would have ended is
not, so that the old one's expiry is not taken (R59). -/
def boostEnding (m : ModeRecord) : Bool :=
  match m.boost with
  | none => false
  | some n => n ≤ seconds 1

/-- The panel boost's remaining time reaches 0 (R59). -/
def endBoost (s : State) : State :=
  if boostEnding s.mode then settle { s with mode := { s.mode with boost := none } } else s

/-- BOOST_EXPIRES (R59). -/
def execBoostExpires (s : State) : Result := live s endBoost

/-- TACH_EDGE (R70). A change of measured speed alone is no input change (R79). -/
def execTachEdge (fan : Side) (time : Nat) (s : State) : Result :=
  live s (fun s => setFan s fan ((fanOf s fan).edge time))

/-- A stall event (R74). -/
def stallFan (side : Side) (s : State) : State := settle (raise .stall (setFan s side (fanOf s side).toStalled))

/-- The kick ends (R72): RUNNING when an edge was seen, else a stall event. -/
def endKick (side : Side) (s : State) : State :=
  if (fanOf s side).state = .starting then
    if (fanOf s side).edgeSeen then settle (setFan s side (fanOf s side).toRunning) else stallFan side s
  else s

/-- KICK_ENDS (R72). -/
def execKickEnds (fan : Side) (s : State) : Result := live s (endKick fan)

/-- The mark of the filter whose fan it is, cleared at a loop step off its speed (R154). -/
def markSpeed (side : Side) (kept : Bool) (s : State) : State :=
  match side with
  | .supply => { s with filters := { s.filters with supplyMinute := s.filters.supplyMinute && kept } }
  | .extract => { s with filters := { s.filters with extractMinute := s.filters.extractMinute && kept } }

/-- A step of the speed loop in RUNNING (R73), judged for the accounting minute (R154). -/
def stepLoop (side : Side) (s : State) : State :=
  if (fanOf s side).state = .running then
    markSpeed side (fanOf s side).onSpeed (setFan s side (fanOf s side).loopStep)
  else s

/-- SPEED_LOOP_STEP (R73). -/
def execSpeedLoopStep (fan : Side) (s : State) : Result := live s (stepLoop fan)

/-- The stall window expires in RUNNING (R73). -/
def endStallWindow (side : Side) (s : State) : State :=
  if (fanOf s side).state = .running && (fanOf s side).stallWindow.isSome then stallFan side s else s

/-- STALL_WINDOW_EXPIRES (R73). -/
def execStallWindowExpires (fan : Side) (s : State) : Result := live s (endStallWindow fan)

/-- The restart wait ends (R75): STARTING, or FAILED with attempts 5 (R76). -/
def endRestartWait (side : Side) (s : State) : State :=
  if (fanOf s side).state = .stalled then
    if (fanOf s side).attempts < 5 then settle (setFan s side (fanOf s side).toStarting)
    else settle (raise .fanFailed (setFan s side (fanOf s side).toFailed))
  else s

/-- FAN_RESTART_WAIT_ENDS (R75). -/
def execFanRestartWaitEnds (fan : Side) (s : State) : Result := live s (endRestartWait fan)

/-- A minute of running without a break (R77): the attempts go to 0 and the running time stops counting. -/
def reachRunningTime (side : Side) (s : State) : State :=
  if (fanOf s side).state = .running then setFan s side { fanOf s side with runTime := runTicks, attempts := 0 } else s

/-- RUNNING_TIME_REACHED (R77). -/
def execRunningTimeReached (fan : Side) (s : State) : Result := live s (reachRunningTime fan)

end Sys2Proof.Machine
end

