-- ==== Sys2Proof/Machine/Panel.lean ====
section
/-! DEFINITION. The panel port: how a request is taken and answered (R183 to R187), the replies' data (R191, R192), and the
meanings of the fifteen requests and of the port's own events. -/

namespace Sys2Proof.Machine

/-! ### Replies -/

/-- The refusal reasons (R183). -/
inductive Reason where
  | range
  | notListening
  | notSource
  | line
  | busyRestart
deriving DecidableEq, Repr

def Reason.code : Reason → Byte
  | .range => 1
  | .notListening => 2
  | .notSource => 3
  | .line => 4
  | .busyRestart => 5

def sendReply (kind : ReplyKind) (data : List Byte) (s : State) : State :=
  { s with panel := { s.panel with reply := .sending { kind := kind, code := s.panel.code, data := data } } }

def done (data : List Byte) (s : State) : State := sendReply .done data s

def refuse (r : Reason) (s : State) : State := sendReply .refused [r.code] s

/-- The assembly buffer with a whole request in it (R184). -/
def holdRequest (code : Byte) (data : List Byte) (s : State) : State :=
  { s with panel := { s.panel with phase := .sum, code := code, length := byteOf data.length, data := data } }

/-- A well-formed request (R184, R185): discarded while a reply is owed, refused while the restart wait runs, and otherwise
handed to its owner. -/
def panelRequest (code : Byte) (data : List Byte) (owner : State → State) (s : State) : State :=
  if s.panel.reply = .none then
    if s.panel.restartWait.isSome then refuse .busyRestart (holdRequest code data s) else owner (holdRequest code data s)
  else s

/-! ### The snapshot (R192) -/

def membershipCode : Membership → Nat
  | .straps => 0
  | .listen => 1
  | .joined => 2

def conditionCode : LineCondition → Nat
  | .clear => 0
  | .doubt => 1
  | .stuck => 2
  | .muted => 3

def causeCode : MutedCause → Nat
  | .none => 0
  | .driverFault => 1
  | .duplicate => 2

def strapsCode (x : Option Straps) : Nat :=
  match x with
  | none => 0
  | some x => x.number.val + bit x.pullUp 4 + bit x.override 5 + 64 * x.fanClass.val

def sourceCode : TermsSource → Nat
  | .defaults => 0
  | .panel => 1
  | .heard j => 2 + 16 * j.val

def heldCode (m : Option BaseMode) : Nat :=
  match m with
  | none => 0
  | some .normal => 1
  | some .night => 2
  | some .away => 3
  | some .off => 4

def scheduledCode (m : Option SchedMode) : Nat :=
  match m with
  | none => 0
  | some m => schedModeCode m

def fanStateCode : FanState → Nat
  | .stopped => 0
  | .starting => 1
  | .running => 2
  | .stalled => 3
  | .failed => 4

def humidCode : HumidState → Nat
  | .idle => 0
  | .boost => 1
  | .rest => 2

def filterCode : FilterState → Nat
  | .learning => 0
  | .inService => 1
  | .due => 2
  | .overdue => 3
  | .unknown => 4

def saveCode : SaveState → Nat
  | .idle => 0
  | .writing _ => 1
  | .queued _ => 2

def channelCode : ChannelState → Nat
  | .starting => 0
  | .valid => 1
  | .invalid => 2

def lampCode : LampLevel → Nat
  | .off => 0
  | .blinking => 1
  | .steady => 2

def fanBytes (f : Fan) : List Byte :=
  [byteOf (fanStateCode f.state), byteOf f.duty] ++ le16 f.measured ++ [byteOf f.attempts, byteOf f.targetFlow]
    ++ le16 f.targetSpeed

def filterBytes (t : Terms) (f : Filter) : List Byte :=
  [byteOf (filterCode f.state), byteOf (bit f.notice 0 + bit f.reference.isSome 1 + bit f.clog.isSome 2)]
    ++ le16 (min 65535 (filterLife t f)) ++ le32 f.used ++ le16 f.learnMinutes ++ le16 (f.clog.getD 0)

def channelBytes (c : Channel) : List Byte := byteOf (channelCode c.state) :: signed16 (c.reading.getD (-32768))

/-- The minutes that are counting in the humidity monitor (R150). -/
def humidMinutes (h : Humid) : Nat :=
  match h.state with
  | .idle => 0
  | .boost => h.boostMinutes
  | .rest => h.restMinutes

def newestAverage (h : Humid) : Nat :=
  match h.ring with
  | [] => 255
  | x :: _ => x

/-- Bytes 0 to 13 of the snapshot. -/
def snapshotStation (s : State) : List Byte :=
  [byteOf (membershipCode s.join.membership),
   byteOf (bit s.join.straps.isSome 0 + bit s.join.querySent 1 + bit s.join.skew 2 + bit s.plan.curbed 3
     + bit s.frost.preheater 4 + bit s.own.eligible 5 + bit s.frost.blind 6 + bit (humidActive s) 7),
   byteOf (strapsCode s.join.straps),
   byteOf (conditionCode s.line.condition + 4 * causeCode s.line.cause),
   byteOf s.line.errors, byteOf s.line.collisions,
   s.join.terms.version, byteOf (sourceCode s.join.source),
   byteOf (presenceCount s),
   byteOf (heldCode s.mode.held + 16 * scheduledCode s.mode.scheduled),
   byteOf (modeCode (baseMode s.mode).effective), byteOf (modeCode s.plan.effective)]
    ++ le16 (secondsLeft s.mode.boost)

/-- Bytes 30 to 45 of the snapshot. -/
def snapshotBlocks (s : State) : List Byte :=
  [byteOf s.stack.demand, byteOf s.stack.cap, byteOf s.stack.claim] ++ le16 (baseShare s) ++ signed16 (headroom s)
    ++ [byteOf s.stack.backoff,
        byteOf (stageCode s.frost.stage), byteOf s.frost.reduction, signedByte s.frost.tLim,
        byteOf (secondsLeft s.frost.reTake),
        byteOf (humidCode s.humid.state), byteOf (humidMinutes s.humid), byteOf s.humid.ring.length,
        byteOf (newestAverage s.humid)]

/-- Bytes 70 to 96 of the snapshot. -/
def snapshotClock (s : State) : List Byte :=
  [signedByte s.filters.trim, byteOf (saveCode s.filters.save)] ++ le24 s.clock.time ++ [byteOf s.clock.sub]
    ++ signed16 s.clock.slew ++ [byteOf (match s.clock.source with
      | none => 255
      | some j => j.val)]
    ++ channelBytes s.sensors.tO ++ channelBytes s.sensors.tS ++ channelBytes s.sensors.tE ++ channelBytes s.sensors.tX
    ++ channelBytes s.sensors.hE ++ [byteOf (lampCode s.lamp.level)] ++ le16 s.events.toNat

/-- The 97 bytes of the snapshot, all of one instant (R192). Bits to which R192 gives no meaning are sent as 0: the model's
choice (log 40). -/
def snapshot (s : State) : List Byte :=
  snapshotStation s ++ fanBytes s.supplyFan ++ fanBytes s.extractFan ++ snapshotBlocks s
    ++ filterBytes s.join.terms s.filters.supply ++ filterBytes s.join.terms s.filters.extract ++ snapshotClock s

/-! ### The other replies' data (R191) -/

def presenceCode : Presence → Nat
  | .absent => 0
  | .present => 1
  | .stale => 2

def reportBytes (r : Option Report) : List Byte :=
  match r with
  | none => []
  | some r => statusList (encodeStatus r)

/-- The PEER_READ data (R41). -/
def peerData (s : State) (j : Station) : List Byte :=
  if isOwn s j then [byteOf j.val, 3, 0, byteOf s.peers.unusable] ++ reportBytes s.peers.ownReport
  else
    let r := s.peers.records.get j
    [byteOf j.val, byteOf (presenceCode r.presence), byteOf r.age, byteOf s.peers.unusable] ++ reportBytes r.fields

/-- The four bytes of a queue entry (R191); bits 6 and 7 of the first are sent as 0: the model's choice (log 40). -/
def entryData (s : State) (e : Entry) : List Byte :=
  [byteOf (e.station.val + bit e.shadow.isSome 4 + bit (granted s e.station) 5), e.serial]
    ++ le16 (e.hold / Config.ticksPerSecond)

/-- The running countdown, 0 in SYNCED (R191). -/
def countdown (q : Queue) : Nat :=
  match q.state with
  | .rebuild => q.rebuild
  | .synced => 0
  | .unsure => q.confirm

/-- The QUEUE_READ data (R137, R191). The serial byte while no leaving serial is held is 0 (log 37), and so are bits 4 to 7 of
the flags (log 40): the model's choices. -/
def queueData (s : State) : List Byte :=
  [byteOf (copyCode s.queue.state), s.queue.n,
   byteOf (bit s.queue.nSet 0 + bit s.own.outstanding 1 + bit s.own.eligible 2 + bit s.own.leaving.isSome 3),
   byteOf (countdown s.queue), byteOf (kEff s), s.own.leaving.getD 0, byteOf s.queue.stale, byteOf s.queue.late,
   byteOf s.queue.entries.length] ++ (s.queue.entries.map (entryData s)).flatten

/-- The TALLY_READ data (R24). -/
def tallyData (s : State) : List Byte :=
  [byteOf (match s.line.tally.sender with
     | none => 255
     | some j => j.val),
   byteOf s.line.tally.received, byteOf s.line.tally.mismatched,
   byteOf (match s.line.run with
     | none => 0
     | some r => r.remaining),
   byteOf s.line.collisions]

/-! ### Requests -/

/-- STATUS_READ (R192). The snapshot is of the station as the request finds it. -/
def execStatusRead (s : State) : Result := live s (panelRequest 1 [] (fun s => done (snapshot s) s))

/-- The held mode of a MODE_SET code (R186). -/
def heldOfCode (n : Nat) : Option BaseMode :=
  match n with
  | 1 => some .normal
  | 2 => some .night
  | 3 => some .away
  | 4 => some .off
  | _ => none

/-- MODE_SET as the planner takes it (R58); the frost guard is told of OFF (R113). -/
def takeModeSet (mode minutes : Byte) (s : State) : State :=
  match heldOfCode mode.toNat with
  | some b =>
    let s1 := { s with mode := { s.mode with held := some b, boost := none } }
    done [] (settle (if b = .off then panelOff s1 else s1))
  | none =>
    if mode = 5 && 10 ≤ minutes.toNat && minutes.toNat ≤ 120 then
      done [] (settle { s with mode := { s.mode with
        held := if s.mode.held = some .off then none else s.mode.held, boost := some (seconds (minutes.toNat * 60)) } })
    else refuse .range s

/-- MODE_SET (R58). -/
def execModeSet (mode minutes : Byte) (s : State) : Result :=
  live s (panelRequest 2 [mode, minutes] (takeModeSet mode minutes))

/-- TIME_SET as the time base takes it (R170). -/
def takeTimeSet (time : BitVec 24) (s : State) : State :=
  if 604799 < time.toNat then refuse .range s
  else if s.clock.source.isSome then refuse .notSource s
  else done [] (settle (setClock time.toNat 0 s))

/-- TIME_SET (R170). -/
def execTimeSet (time : BitVec 24) (s : State) : Result := live s (panelRequest 3 (le24 time.toNat) (takeTimeSet time))

/-- SCHEDULE_WRITE as the time base takes it (R171). -/
def takeScheduleWrite (index : Byte) (entry : EntryBytes) (s : State) : State :=
  if h : index.toNat < 8 then
    match decodeEntry entry with
    | none => refuse .range s
    | some e => done [] { s with clock := { s.clock with schedule := s.clock.schedule.set index.toNat e h } }
  else refuse .range s

/-- SCHEDULE_WRITE (R171). -/
def execScheduleWrite (index : Byte) (entry : EntryBytes) (s : State) : Result :=
  live s (panelRequest 4 (index :: entryList entry) (takeScheduleWrite index entry))

/-- SCHEDULE_READ as the time base takes it (R171). -/
def takeScheduleRead (index : Byte) (s : State) : State :=
  if h : index.toNat < 8 then done (index :: entryList (encodeEntry s.clock.schedule[index.toNat])) s
  else refuse .range s

/-- SCHEDULE_READ (R171). -/
def execScheduleRead (index : Byte) (s : State) : Result := live s (panelRequest 5 [index] (takeScheduleRead index))

/-- The side a request byte names: 0 SUPPLY, 1 EXTRACT (R186). -/
def sideOfByte (b : Byte) : Option Side := if b = 0 then some .supply else if b = 1 then some .extract else none

/-- FILTER_ACK once the restore has been made (R158). -/
def answerAck (filter : Byte) (s : State) : State :=
  match sideOfByte filter with
  | none => refuse .range s
  | some side => done [] (settle (setFilter s side { filterOf s side with notice := false }))

/-- FILTER_RESET once the restore has been made (R159). -/
def answerReset (filter : Byte) (s : State) : State :=
  match sideOfByte filter with
  | none => refuse .range s
  | some side => done [] (settle (resetFilter side s))

/-- A filter request: deferred until the restore has been made (R159, R164, R185). -/
def deferOr (r : FilterRequest) (answer : State → State) (s : State) : State :=
  if s.filters.restored then answer s else { s with panel := { s.panel with reply := .deferred r } }

/-- FILTER_ACK (R158). -/
def execFilterAck (filter : Byte) (s : State) : Result :=
  live s (panelRequest 6 [filter] (deferOr (.ack filter) (answerAck filter)))

/-- FILTER_RESET (R159). -/
def execFilterReset (filter : Byte) (s : State) : Result :=
  live s (panelRequest 7 [filter] (deferOr (.reset filter) (answerReset filter)))

/-- FAN_CLEAR as the fan drive takes it (R78). -/
def takeFanClear (fan : Byte) (s : State) : State :=
  match sideOfByte fan with
  | none => refuse .range s
  | some side =>
    if (fanOf s side).state = .failed then
      done [] (settle (setFan s side { (fanOf s side).toStopped with attempts := 0 }))
    else done [] s

/-- FAN_CLEAR (R78). -/
def execFanClear (fan : Byte) (s : State) : Result := live s (panelRequest 8 [fan] (takeFanClear fan))

/-- PEER_READ as the peer table takes it (R41, R186). -/
def takePeerRead (station : Byte) (s : State) : State :=
  if h : station.toNat < 16 then done (peerData s ⟨station.toNat, h⟩) s else refuse .range s

/-- PEER_READ (R41). -/
def execPeerRead (station : Byte) (s : State) : Result := live s (panelRequest 9 [station] (takePeerRead station))

/-- QUEUE_READ (R137). -/
def execQueueRead (s : State) : Result := live s (panelRequest 10 [] (fun s => done (queueData s) s))

/-- TERMS_SET as the join unit takes it (R53). -/
def takeTermsSet (payload : TermsBytes) (s : State) : State :=
  if s.join.membership = .listen then
    match decodeTerms payload with
    | none => refuse .range s
    | some t => done [] { s with join := { s.join with panelSet := some t } }
  else refuse .notListening s

/-- TERMS_SET (R53). -/
def execTermsSet (payload : TermsBytes) (s : State) : Result :=
  live s (panelRequest 11 (termsList payload) (takeTermsSet payload))

/-- A new run replaces the old one, whose TEST frame, if it is being sent, no longer counts (R23). -/
def startRun (seed : Byte) (count : Nat) (s : State) : State :=
  requestTest { s with line := { s.line with
    run := some { seed := seed, remaining := count }
    sending := s.line.sending.map (fun f => { f with counted := false }) } }

/-- LINE_TEST as the line interface takes it (R23). A count out of range is refused before the line and the membership are
looked at: the model's choice (log 32). -/
def takeLineTest (seed count : Byte) (s : State) : State :=
  if count.toNat < 1 || 8 < count.toNat then refuse .range s
  else if s.line.condition ≠ .clear || s.join.membership ≠ .joined then refuse .line s
  else done [] (startRun seed count.toNat s)

/-- LINE_TEST (R23). -/
def execLineTest (seed count : Byte) (s : State) : Result := live s (panelRequest 12 [seed, count] (takeLineTest seed count))

/-- TALLY_READ (R24). -/
def execTallyRead (s : State) : Result := live s (panelRequest 13 [] (fun s => done (tallyData s) s))

/-- EVENTS_CLEAR as the port takes it (R188). The flag set is answered in two bytes, bits 14 and 15 as 0: the model's choice
(log 43). -/
def takeEventsClear (mask : BitVec 16) (s : State) : State :=
  if 16383 < mask.toNat then refuse .range s
  else
    let events := s.events &&& ~~~(mask.setWidth 14)
    done (le16 events.toNat) { s with events := events }

/-- EVENTS_CLEAR (R188). -/
def execEventsClear (mask : BitVec 16) (s : State) : Result :=
  live s (panelRequest 14 (le16 mask.toNat) (takeEventsClear mask))

/-- Whether a restart first gives the place back (R187). -/
def restartGivesUp (s : State) : Bool :=
  s.join.membership = .joined && (ownEntry s).isSome && s.line.condition = .clear

/-- RESTART as the port takes it (R187): the wait with a give-up, or the restart when the reply has been sent. -/
def takeRestart (s : State) : State :=
  if restartGivesUp s then
    let s1 := giveUp s
    done [] { s1 with panel := { s1.panel with restartWait := some panelWaitTicks } }
  else done [] { s with panel := { s.panel with restartDue := true } }

/-- RESTART (R187). -/
def execRestart (s : State) : Result := live s (panelRequest 15 [] takeRestart)

/-! ### The port's own events -/

/-- The restart wait reaches 1 s (R187). -/
def endPanelWait (s : State) : State := if s.panel.restartWait.isSome then restartNow s else s

/-- RESTART_WAIT_EXPIRES (R187). -/
def execRestartWaitExpires (s : State) : Result := live s endPanelWait

/-- The assembly back in HUNT with an empty buffer (R184, R185). -/
def toHunt (p : Panel) : Panel := { p with phase := .hunt, code := 0, length := 0, data := [] }

/-- The last byte of the reply has been sent (R185); a restart that waited for it takes effect (R187). -/
def endReply (s : State) : State :=
  match s.panel.reply with
  | .none => s
  | .deferred _ => s
  | .sending _ =>
    if s.panel.restartDue then restartNow s else { s with panel := { toHunt s.panel with reply := .none } }

/-- REPLY_SENT (R185). -/
def execReplySent (s : State) : Result := live s endReply

/-- Whether the bytes leave a request in assembly (R184). -/
def partialRequest (bytes : List Byte) : Bool :=
  match assemble bytes with
  | .waiting phase _ _ _ => phase ≠ .hunt
  | .tooLong _ _ => false
  | .complete _ _ _ _ => false

/-- The gap that discards a partial request without a reply (R184). -/
def dropPartial (bytes : List Byte) (s : State) : State :=
  if s.panel.reply = .none && partialRequest bytes then { s with panel := toHunt s.panel } else s

/-- PANEL_ASSEMBLY_TIMEOUT (R183, R184). -/
def execPanelAssemblyTimeout (chars : List RxChar) (s : State) : Result := live s (dropPartial (panelBytes chars))

/-- The buffer as a badly formed request leaves it: back in HUNT after a length above 16, else at the sum byte (R184). -/
def holdAssembly (a : Assembly) (s : State) : State :=
  match a with
  | .waiting _ _ _ _ => s
  | .tooLong code length => { s with panel := { s.panel with phase := .hunt, code := code, length := length, data := [] } }
  | .complete code length data _ =>
    { s with panel := { s.panel with phase := .sum, code := code, length := length, data := data } }

/-- A request the port answers by itself (R184); it changes no state of any block (R185). -/
def answerFormat (bytes : List Byte) (s : State) : State :=
  if s.panel.reply = .none then
    match formatReply (assemble bytes) with
    | none => s
    | some kind => sendReply kind [] (holdAssembly (assemble bytes) s)
  else s

/-- BAD_FORMAT (R183, R184). -/
def execBadFormat (chars : List RxChar) (s : State) : Result := live s (answerFormat (panelBytes chars))

end Sys2Proof.Machine
end

