-- ==== Sys2Proof/Machine/FiltersAndClock.lean ====
section
/-! DEFINITION. The meanings of the filter unit's events (Chapter 9), of the clock's (Chapter 10) and of the blink. -/

namespace Sys2Proof.Machine

/-- The end of an accounting minute (R153), while its timer runs. -/
def takeAccountingMinute (s : State) : State := if s.filters.minuteTimer.isSome then settle (accountMinute s) else s

/-- ACCOUNTING_MINUTE (R153). -/
def execAccountingMinute (s : State) : Result := live s takeAccountingMinute

/-- Whether the running minute of a filter still qualifies. -/
def minuteKept (s : State) : Side → Bool
  | .supply => s.filters.supplyMinute
  | .extract => s.filters.extractMinute

/-- The learning minute that reaches 1440, by itself (R155): the minute that learns does not count in the hour (R156), so
its mark is cleared. -/
def takeReferenceLearnt (side : Side) (s : State) : State :=
  let f := filterOf s side
  let fan := fanOf s side
  if f.reference.isNone && f.learnMinutes = 1439 && minuteQualifies (minuteKept s side) fan then
    let s1 := setFilter s side (f.learn (minuteRatio fan))
    settle (formStates (match side with
      | .supply => { s1 with filters := { s1.filters with supplyMinute := false } }
      | .extract => { s1 with filters := { s1.filters with extractMinute := false } }))
  else s

/-- REFERENCE_LEARNT (R155). -/
def execReferenceLearnt (filter : Side) (s : State) : Result := live s (takeReferenceLearnt filter)

/-- The hour mark by itself (R156): the sixtieth minute of the hour. -/
def takeHourMark (s : State) : State := if 59 ≤ s.filters.minuteCount then settle (closeHours s) else s

/-- HOUR_MARK (R156). -/
def execHourMark (s : State) : Result := live s takeHourMark

/-- The end of a trim period by itself (R161): the fifteenth minute of the period. -/
def takeTrimPeriodEnd (s : State) : State := if 14 ≤ s.filters.period then settle (endPeriod s) else s

/-- TRIM_PERIOD_END (R161). -/
def execTrimPeriodEnd (s : State) : Result := live s takeTrimPeriodEnd

/-- NV_WRITE_ENDS (R163). -/
def execNvWriteEnds (s : State) : Result := live s endWrite

/-- The filter request that waited for the restore is answered (R159, R185). -/
def answerDeferred (s : State) : State :=
  match s.panel.reply with
  | .none => s
  | .sending _ => s
  | .deferred (.ack filter) => answerAck filter s
  | .deferred (.reset filter) => answerReset filter s

/-- The restore (R164): once in a start, when no write is in flight or queued. -/
def takeRestore (s : State) : State :=
  if !s.filters.restored && s.filters.save = .idle then answerDeferred (settle (restoreRecord s)) else s

/-- NV_RESTORE (R164). -/
def execNvRestore (s : State) : Result := live s takeRestore

/-- The running clock's entry into a minute (R166, R172): taken when the oscillator's next advance enters one. After a step or
an accepted TIME_SET the sub-second count stands at 32 or 0, so that a running entry taken behind the change does not happen
(R173; log 14). -/
def takeMinuteEntered (s : State) : State := if minuteDue s then settle (enterMinute s) else s

/-- MINUTE_ENTERED (R166, R172, R173). -/
def execMinuteEntered (s : State) : Result := live s takeMinuteEntered

/-- SLEW_SECOND (R169). -/
def execSlewSecond (s : State) : Result := live s (fun s => settle (slewOnce s))

/-- The blink half ends (R180). -/
def toggleBlink (s : State) : State :=
  if s.lamp.level = .blinking then
    { s with lamp := { s.lamp with on := !s.lamp.on, timer := some blinkTicks } }
  else s

/-- BLINK_TOGGLE (R180). -/
def execBlinkToggle (s : State) : Result := live s toggleBlink

end Sys2Proof.Machine
end

