-- ==== Sys2Proof/Machine/Frames.lean ====
section
/-! DEFINITION. The meanings of the frames taken from the line. -/

namespace Sys2Proof.Machine

/-- STATUS_TAKEN (R8, R35, R36). -/
def execStatusTaken (sender : Station) (payload : StatusBytes) (s : State) : Result :=
  live s (takeFrame sender (deliverStatus sender payload))

/-- TAKE_TAKEN (R8, R119, R121). -/
def execTakeTaken (sender : Station) (serial : Byte) (s : State) : Result :=
  live s (takeFrame sender (queueTake sender serial))

/-- GIVE_TAKEN (R8, R119, R123). -/
def execGiveTaken (sender : Station) (serial : Byte) (s : State) : Result :=
  live s (takeFrame sender (queueGive sender serial))

/-- A query from a peer is answered in JOINED (R50). -/
def answerQuery (s : State) : State := if s.join.membership = .joined then requestTerms s else s

/-- TERMS_QUERY_TAKEN (R8, R50). -/
def execTermsQueryTaken (sender : Station) (s : State) : Result := live s (takeFrame sender answerQuery)

/-- A TERMS set from a peer: a candidate in LISTEN (R52); in JOINED it withdraws a pending own set of its version (R51). -/
def deliverTerms (sender : Station) (payload : TermsBytes) (s : State) : State :=
  match decodeTerms payload with
  | none => s
  | some t =>
    match s.join.membership with
    | .straps => s
    | .listen => { s with join := { s.join with best := some (heardSet s.join.best sender t) } }
    | .joined =>
      if s.out.terms = some .set && t.version = s.join.terms.version then { s with out := { s.out with terms := none } }
      else s

/-- TERMS_SET_TAKEN (R8, R51, R52). -/
def execTermsSetTaken (sender : Station) (payload : TermsBytes) (s : State) : Result :=
  live s (takeFrame sender (deliverTerms sender payload))

/-- TEST_TAKEN (R8, R24). -/
def execTestTaken (sender : Station) (payload : Vector Byte 16) (s : State) : Result :=
  live s (takeFrame sender (tallyTest sender payload.toList))

end Sys2Proof.Machine
end

