-- ==== Sys2Proof/Machine/LineEvents.lean ====
section
/-! DEFINITION. The meanings of the line's commands: idle, busy, slots, collisions, driver faults, own frames, receive errors
and a stuck line. -/

namespace Sys2Proof.Machine

/-- The line has been recessive for 11 bit times (R4, R7, R9); it ends STUCK (R20). Sent while the line is idle already, or
while the station's own frame is being sent, the event makes an idle begin all the same, its slots from 0: the model's choice
(log 42). -/
def lineFallsIdle (s : State) : State :=
  if s.line.receiverOn then
    let s1 := { s with line := { s.line with idle := true, receiverReady := true, slotTime := some 0 } }
    if s.line.condition = .stuck then
      settle (enterDoubt { s1 with line := { s1.line with errors := s.join.terms.errorThreshold } })
    else s1
  else s

/-- LINE_IDLE (R4). -/
def execLineIdle (s : State) : Result := live s lineFallsIdle

/-- The line changes to dominant (R4, R9): busy, a glitch included. -/
def lineGoesBusy (s : State) : State := if s.line.receiverOn then busy s else s

/-- LINE_BUSY (R4): whether the start bit is held decides only whether a character is formed (R3), which the receiver's own
commands tell. -/
def execLineBusy (_startHeld : Bool) (s : State) : Result := live s lineGoesBusy

/-- The frame begins: out of the set, built, on a line that is busy from its start bit on (R11, R12, R16). -/
def beginFrame (own : Station) (w : Wanted) (c : Content) (s : State) : State :=
  busy { s with out := removeWanted w s.out,
                line := { s.line with sending := some { content := c, bytes := frameBytes own c, counted := true } } }

/-- The station's slot begins on an idle line (R11): its frame starts, or its owner declines and the slot count goes on. -/
def slotStarts (s : State) : State :=
  match ownNumber s, nextWanted s with
  | some own, some w =>
    if s.line.idle && s.line.sending.isNone then
      match buildContent s w with
      | some c => beginFrame own w c s
      | none => settle (decline w { s with line := { s.line with slotTime := (ownSlot s).map (2 * ·) } })
    else s
  | _, _ => s

/-- The slot cycle's bit times (R9): 64 slots of 2. -/
def cycleBits : Nat := 128

/-- The slot count runs on an idle line, past slot 63 into slot 0 (R9). -/
def advanceSlots (bits : Nat) (s : State) : State :=
  { s with line := { s.line with slotTime := s.line.slotTime.map (fun t => (t + bits) % cycleBits) } }

/-- The running slot count, 0 to 63 (R9). -/
def slotCount (s : State) : Option Nat := s.line.slotTime.map (· / 2)

/-- The bit times until the station's own slot begins, in this cycle or the next (R11). A frame that becomes pending in the
very bit time in which its slot begins takes that slot at once, 0 bit times off, and not the next cycle's: the model's choice
(log 41). -/
def bitsToSlot (s : State) : Option Nat :=
  match s.line.slotTime, ownSlot s with
  | some t, some n => if s.line.idle && s.line.sending.isNone then some ((2 * n + cycleBits - t) % cycleBits) else none
  | _, _ => none

/-- The given bit times of an idle line (R9, R11): the station's slot, when it comes, is taken; if the owner declines, the
slot is computed again from the frames still pending (R12). A declined frame leaves the set, which holds five at most, so six
turns are enough. -/
def runSlots : Nat → Nat → State → State
  | 0, bits, s => advanceSlots bits s
  | turns + 1, bits, s =>
    match bitsToSlot s with
    | none => advanceSlots bits s
    | some d => if d < bits then runSlots turns (bits - d) (slotStarts (advanceSlots d s)) else advanceSlots bits s

/-- The bit times of one tick on the terrace line (log 5). -/
def runLine (s : State) : State := runSlots 6 lineBitTimes s

/-- SLOT_BEGINS (R11). -/
def execSlotBegins (s : State) : Result := live s slotStarts

/-- Whether a lost frame is a query that the end of LISTEN has made void (R47). -/
def voidQuery (s : State) (c : Content) : Bool := c = .termsQuery && s.join.membership = .joined

/-- The line is lost (R13): the driver released, the counter up, the frame pending again. -/
def loseLine (s : State) : State :=
  match s.line.sending with
  | none => s
  | some f =>
    { s with
      line := { s.line with sending := none, collisions := min 255 (s.line.collisions + 1) }
      out := if voidQuery s f.content then s.out else pendAgain f.content s.out }

/-- LOST_THE_LINE (R13). -/
def execLostTheLine (s : State) : Result := live s loseLine

/-- The driver fails to hold the line (R15): the stopped frame leaves as one withdrawn by the change to MUTED. -/
def failDriver (s : State) : State :=
  match s.line.sending with
  | none => s
  | some f =>
    let s1 := busy { s with line := { s.line with sending := none }, out := pendAgain f.content s.out }
    afterLine s1.out.give (enterMuted .driverFault s1)

/-- DRIVER_FAULT (R15). -/
def execDriverFault (s : State) : Result := live s failDriver

/-- The own GIVE completes (R119, R123, R134): the copy takes it, the re-take wait starts, and a restart that waited for it
takes effect (R187). -/
def ownGiveSent (own : Station) (serial : Byte) (s : State) : State :=
  let s1 := queueGive own serial s
  let s2 := startReTake { s1 with own := { s1.own with leaving := none } }
  if s2.panel.restartWait.isSome then restartNow s2 else settle s2

/-- The own TAKE completes (R121, R133). -/
def ownTakeSent (own : Station) (serial : Byte) (s : State) : State :=
  let s1 := queueTake own serial s
  settle (entryAppeared { s1 with own := { s1.own with outstanding := false } })

/-- What the completion of an own frame does beside what every valid frame does (R14). -/
def deliverOwn (own : Station) (f : Sending) (s : State) : State :=
  match f.content with
  | .give serial => ownGiveSent own serial s
  | .take serial => ownTakeSent own serial s
  | .status r => settle { s with peers := { s.peers with ownReport := some r } }
  | .termsQuery => settle { s with join := { s.join with querySent := true } }
  | .termsSet _ => settle s
  | .test seed => settle (runSent f.counted (tallyTest own (testPattern seed) s))

/-- An own frame sent to completion (R14). -/
def completeFrame (s : State) : State :=
  match s.line.sending, ownNumber s with
  | some f, some own => deliverOwn own f (heard own { s with line := { s.line with sending := none } })
  | _, _ => s

/-- OWN_FRAME_COMPLETE (R14). -/
def execOwnFrameComplete (s : State) : Result := live s completeFrame

/-- The line busy and the receiver not ready: no frame is formed until the next idle (R4, R7). -/
def receiverLost (s : State) : State := busy { s with line := { s.line with receiverReady := false } }

/-- A frame in assembly breaks (R7, R19). -/
def breakFrame (chars : List RxChar) (s : State) : State :=
  if canReceive s && (receiveFault chars).isSome then settle (errorUp (receiverLost s)) else s

/-- RECEIVE_ERROR (R3, R7). -/
def execReceiveError (chars : List CharLevels) (s : State) : Result := live s (breakFrame (receiveChars chars))

/-- The line has been dominant for 64 bit times (R20). A frame in assembly has been broken by then (R20), so that none is
formed while the line is held, in any condition (R7, R42). -/
def lineSticks (s : State) : State :=
  if s.line.receiverOn then
    if s.line.condition = .clear || s.line.condition = .doubt then afterLine s.out.give (enterStuck (receiverLost s))
    else receiverLost s
  else s

/-- LINE_STUCK (R20). -/
def execLineStuck (s : State) : Result := live s lineSticks

end Sys2Proof.Machine
end

