-- ==== Sys2Proof/Machine/Rounds.lean ====
section
/-! DEFINITION. The meanings of the round tick and of what happens at one. ROUND_TICK does all that a tick brings; the other
commands are the same work taken by its block alone, at the tick that makes it due (log 4). -/

namespace Sys2Proof.Machine

/-- The tick as the peer table takes it (R25, R26, R37, R38): the report requested, the records aged, departures told. Of
several departures at one tick the lowest number is cleared and told first: the model's choice (log 34). -/
def peersTick (s : State) : State :=
  let s1 := { s with peers := { s.peers with roundTimer := some roundTicks, ticks := s.peers.ticks + 1 } }
  let s2 := if s1.join.membership = .joined then requestStatus s1 else s1
  let s3 := { s2 with peers := { s2.peers with records := s2.peers.records.map PeerRecord.aged } }
  (departing s3).foldl (fun t j => depart j t) s3

/-- The tick as the stack share unit takes it (R86, R87): the count lowered, then an evaluation. -/
def stackTick (s : State) : State := evaluate { s with stack := { s.stack with backoff := s.stack.backoff - 1 } }

/-- The tick as the join unit takes it (R46, R47, R55). -/
def joinTick (s : State) : State :=
  match s.join.membership with
  | .straps => s
  | .listen =>
    if 2 ≤ s.join.listenTicks then endListen s
    else { s with join := { s.join with listenTicks := s.join.listenTicks + 1 } }
  | .joined => evaluateSkew s

/-- A round tick (R25): taken while the round timer runs. -/
def takeRoundTick (s : State) : State :=
  if s.peers.roundTimer.isSome then
    let s1 := peersTick s
    settle (joinTick (stackTick (queueTick s1.peers.ticks s1)))
  else s

/-- ROUND_TICK (R25). -/
def execRoundTick (s : State) : Result := live s takeRoundTick

/-- A departure by itself (R38): the tick that brings the record's age to 3. -/
def takeDeparture (j : Station) (s : State) : State :=
  if (s.peers.records.get j).held && 2 ≤ (s.peers.records.get j).age then settle (depart j s) else s

/-- PEER_DEPARTURE (R38). -/
def execPeerDeparture (j : Station) (s : State) : Result := live s (takeDeparture j)

/-- The end of LISTEN by itself (R47): the third tick the join unit takes. -/
def takeListenEnd (s : State) : State :=
  if s.join.membership = .listen && 2 ≤ s.join.listenTicks then settle (endListen s) else s

/-- LISTEN_END (R47). -/
def execListenEnd (s : State) : Result := live s takeListenEnd

/-- The end of REBUILD by itself (R120): the tick that brings the running countdown from 1 to 0. -/
def takeRebuildEnd (s : State) : State :=
  if s.queue.state = .rebuild && s.queue.rebuild = 1 then settle { s with queue := s.queue.endRebuild } else s

/-- REBUILD_END (R120). -/
def execRebuildEnd (s : State) : Result := live s takeRebuildEnd

/-- The end of UNSURE by itself (R118). -/
def takeConfirmEnd (s : State) : State :=
  if s.queue.state = .unsure && s.queue.confirm ≤ 1 then settle { s with queue := s.queue.endConfirm } else s

/-- CONFIRM_END (R118). -/
def execConfirmEnd (s : State) : Result := live s takeConfirmEnd

/-- A SHADOW entry removed by itself (R129). -/
def takeShadowRemoval (j : Station) (s : State) : State :=
  if (entryOf s.queue j).any (fun e => e.shadow.isSome) then settle { s with queue := s.queue.drop j } else s

/-- SHADOW_REMOVAL (R129). -/
def execShadowRemoval (j : Station) (s : State) : Result := live s (takeShadowRemoval j)

/-- A granted entry's hold limit is reached (R126, R127); an entry that is not granted is not timed. -/
def takeHoldExpiry (j : Station) (s : State) : State := if granted s j then settle (expireHold j s) else s

/-- HOLD_EXPIRY (R126). -/
def execHoldExpiry (j : Station) (s : State) : Result := live s (takeHoldExpiry j)

/-- The backoff's last tick by itself (R86): the count from 1 to 0 and the tick's evaluation without it. -/
def takeBackoffEnd (s : State) : State := if s.stack.backoff = 1 then settle (stackTick s) else s

/-- BACKOFF_END (R86). -/
def execBackoffEnd (s : State) : Result := live s takeBackoffEnd

end Sys2Proof.Machine
end

