-- ==== Sys2Proof/Machine/Sensing.lean ====
section
/-! DEFINITION. The meanings of SCAN (Chapter 11), of the frost guard's timers (Chapter 6) and of the humidity minutes
(Chapter 8). -/

namespace Sys2Proof.Machine

/-! ### The scan -/

/-- The good sample a conversion yields in its channel's range, or none for a bad sample (R176). -/
def goodSample (low high : Int) (c : Conversion) : Option Int :=
  match c with
  | .reading v => if low ≤ v && v ≤ high then some v else none
  | .openInput => none
  | .shortInput => none

/-- The channel becomes VALID with the sample's value (R177). -/
def Channel.toValid (v : Int) : Channel := { state := .valid, reading := some v, bad := 0, good := 0 }

/-- The channel becomes INVALID (R177). -/
def Channel.lost : Channel := { state := .invalid, reading := none, bad := 0, good := 0 }

/-- A channel takes its sample (R177). -/
def Channel.take (c : Channel) (sample : Option Int) : Channel :=
  match c.state, sample with
  | .starting, some v => if 2 ≤ c.good + 1 then .toValid v else { c with bad := 0, good := c.good + 1 }
  | .starting, none => if 3 ≤ c.bad + 1 then .lost else { c with good := 0, bad := c.bad + 1 }
  | .valid, some v => { c with reading := some v, bad := 0 }
  | .valid, none => if 3 ≤ c.bad + 1 then .lost else { c with bad := c.bad + 1 }
  | .invalid, some v => if 2 ≤ c.good + 1 then .toValid v else { c with good := c.good + 1 }
  | .invalid, none => { c with good := 0 }

/-- A channel newly INVALID (R178). -/
def newlyInvalid (before after : Channel) : Bool := before.state ≠ .invalid && after.state = .invalid

/-- The five channels at a scan (R175, R176). -/
def Sensors.take (x : Sensors) (tO tS tE tX hE : Conversion) : Sensors :=
  { scanTimer := some scanTicks
    tO := x.tO.take (goodSample (-400) 850 tO)
    tS := x.tS.take (goodSample (-400) 850 tS)
    tE := x.tE.take (goodSample (-400) 850 tE)
    tX := x.tX.take (goodSample (-400) 850 tX)
    hE := x.hE.take (goodSample 0 100 hE) }

/-- Any of the five channels newly INVALID. -/
def anyLost (x y : Sensors) : Bool :=
  newlyInvalid x.tO y.tO || newlyInvalid x.tS y.tS || newlyInvalid x.tE y.tE || newlyInvalid x.tX y.tX
    || newlyInvalid x.hE y.hE

/-- The scan handed to the frost guard, the humidity monitor and the filter unit (R175). -/
def handScan (s : State) : State := trimScan (humidScan (frostScan s))

/-- A scan (R175): taken while the scan timer runs. -/
def takeScan (tO tS tE tX hE : Conversion) (s : State) : State :=
  if s.sensors.scanTimer.isSome then
    let x := s.sensors.take tO tS tE tX hE
    settle (handScan (raiseIf (anyLost s.sensors x) .sensorInvalid { s with sensors := x }))
  else s

/-- SCAN (R175). -/
def execScan (tO tS tE tX hE : Conversion) (s : State) : Result := live s (takeScan tO tS tE tX hE)

/-! ### Frost timers -/

/-- The step timer expires (R99, R101). -/
def endStep (s : State) : State := if s.frost.stepTimer.isSome then settle (frostStepTimer s) else s

/-- STEP_TIMER_EXPIRES (R99). -/
def execStepTimerExpires (s : State) : Result := live s endStep

/-- The clear timer expires (R98, R102): WATCH to CLEAR, PREHEAT to WATCH with the place given up. -/
def endClear (s : State) : State :=
  if s.frost.clearTimer.isSome then
    match s.frost.stage with
    | .watch => settle (toClear s)
    | .preheat => settle (giveUp (toWatch s))
    | .clear => s
    | .reduce => s
    | .stop => s
  else s

/-- CLEAR_TIMER_EXPIRES (R98). -/
def execClearTimerExpires (s : State) : Result := live s endClear

/-- The stop timer expires (R105). -/
def endStop (s : State) : State :=
  if s.frost.stopTimer.isSome && (s.frost.stage = .reduce || s.frost.stage = .preheat) then settle (toStop s) else s

/-- STOP_TIMER_EXPIRES (R105). -/
def execStopTimerExpires (s : State) : Result := live s endStop

/-- The thaw timer expires (R106). -/
def endThawTimer (s : State) : State :=
  if s.frost.thawTimer.isSome && s.frost.stage = .stop then settle (endThaw s) else s

/-- THAW_TIMER_EXPIRES (R106). -/
def execThawTimerExpires (s : State) : Result := live s endThawTimer

/-- The re-take wait ends (R109). -/
def endReTake (s : State) : State :=
  if s.frost.reTake.isSome then settle { s with frost := { s.frost with reTake := none } } else s

/-- RE_TAKE_WAIT_ENDS (R109). -/
def execReTakeWaitEnds (s : State) : Result := live s endReTake

/-! ### Humidity minutes -/

/-- The thirtieth sample completes a minute (R141): the reading of the latest scan (log 28). -/
def takeHumidityMinute (s : State) : State :=
  match humiditySample s with
  | none => s
  | some x => if s.humid.count = 29 then settle { s with humid := s.humid.minute s.join.terms x } else s

/-- HUMIDITY_MINUTE (R141). -/
def execHumidityMinute (s : State) : Result := live s takeHumidityMinute

/-- The thirtieth minute of REST (R145). -/
def endRest (s : State) : State :=
  if s.humid.state = .rest && 29 ≤ s.humid.restMinutes then settle { s with humid := s.humid.toIdle } else s

/-- REST_END (R145). -/
def execRestEnd (s : State) : Result := live s endRest

/-- The sixtieth minute of BOOST (R144). -/
def endBoostHour (s : State) : State :=
  if s.humid.state = .boost && 59 ≤ s.humid.boostMinutes then settle { s with humid := s.humid.toRest } else s

/-- BOOST_HOUR_END (R144). -/
def execBoostHourEnd (s : State) : Result := live s endBoostHour

end Sys2Proof.Machine
end

