-- ==== Sys2Proof/Machine/Starts.lean ====
section
/-! DEFINITION. The meanings of POWER_ON, RESET_ASSERTED, POWER_LOSS and STRAP_SAMPLE. -/

namespace Sys2Proof.Machine

/-- POWER_ON (R43, R182): a power-on start, whatever went before. -/
def execPowerOn (s : State) : Result := .next (powerOnNow s)

/-- RESET_ASSERTED (R182): the station is held, its outputs released or off, nothing kept but the nonvolatile record. A
station without power stays so. -/
def execResetAsserted (s : State) : Result :=
  .next (if s.power = .off then s else { powerOnNow s with power := .held })

/-- POWER_LOSS (R163): all working state is lost and a write in flight is cut off. -/
def execPowerLoss (s : State) : Result := .next { powerOnNow s with power := .off }

/-- The level two of the three samples agree on, input by input (R44). -/
def majority (a b c : Byte) : Byte := (a &&& b) ||| (a &&& c) ||| (b &&& c)

/-- The straps of eight levels (R45, bits as R192 byte 2). -/
def strapsOf (levels : Byte) : Straps :=
  { number := ⟨levels.toNat % 16, Nat.mod_lt _ (by decide)⟩, pullUp := levels.getLsbD 4, override := levels.getLsbD 5,
    fanClass := ⟨levels.toNat / 64 % 4, Nat.mod_lt _ (by decide)⟩ }

/-- The latch completes (R44): receiver, pull-up, timers, LISTEN with its query and the start of REBUILD (R2, R25, R46, R118,
R151, R175). -/
def latch (straps : Straps) (s : State) : State :=
  requestQuery { s with
    join := { s.join with membership := .listen, samples := [], straps := some straps, listenTicks := 0 }
    line := { s.line with receiverOn := true, receiverReady := false, pullUp := straps.pullUp, idle := false, slotTime := none }
    peers := { s.peers with roundTimer := some roundTicks }
    sensors := { s.sensors with scanTimer := some scanTicks }
    filters := { s.filters with minuteTimer := some accountingTicks }
    queue := s.queue.toRebuild }

/-- The levels the strap inputs read when nothing drives them: number high, pull-up high, override and class low (R181). -/
def floatingLevels : Byte := 0x1F#8

/-- The levels the eight inputs read: as driven, or their internal level where they float (R45, R181). -/
def strapLevels (x : StrapInputs) : Byte := (x.levels &&& ~~~x.floating) ||| (floatingLevels &&& x.floating)

/-- A strap sample in STRAPS (R44); the third one completes the latch, and the plan is composed for the first time (R62). -/
def takeSample (levels : Byte) (s : State) : State :=
  if s.join.membership = .straps then
    match s.join.samples with
    | a :: b :: _ => settle (evaluate (latch (strapsOf (majority a b levels)) s))
    | [a] => { s with join := { s.join with samples := [a, levels] } }
    | [] => { s with join := { s.join with samples := [levels] } }
  else s

/-- STRAP_SAMPLE (R44, R181). -/
def execStrapSample (inputs : StrapInputs) (s : State) : Result := live s (takeSample (strapLevels inputs))

end Sys2Proof.Machine
end

