-- ==== Sys2Proof/Machine/Dispatch.lean ====
section
/-! DEFINITION. Which meaning each command has: one arm per constructor of Instr. -/

namespace Sys2Proof.Machine

def exec (i : Instr) (s : State) : Host.Outcome State Fault Refusal :=
  match i with
  | .powerOn => Sys2Proof.Machine.execPowerOn s
  | .resetAsserted => Sys2Proof.Machine.execResetAsserted s
  | .strapSample inputs => Sys2Proof.Machine.execStrapSample inputs s
  | .lineIdle => Sys2Proof.Machine.execLineIdle s
  | .slotBegins => Sys2Proof.Machine.execSlotBegins s
  | .lostTheLine => Sys2Proof.Machine.execLostTheLine s
  | .driverFault => Sys2Proof.Machine.execDriverFault s
  | .ownFrameComplete => Sys2Proof.Machine.execOwnFrameComplete s
  | .receiveError chars => Sys2Proof.Machine.execReceiveError chars s
  | .lineStuck => Sys2Proof.Machine.execLineStuck s
  | .statusTaken sender payload => Sys2Proof.Machine.execStatusTaken sender payload s
  | .takeTaken sender serial => Sys2Proof.Machine.execTakeTaken sender serial s
  | .giveTaken sender serial => Sys2Proof.Machine.execGiveTaken sender serial s
  | .termsQueryTaken sender => Sys2Proof.Machine.execTermsQueryTaken sender s
  | .termsSetTaken sender payload => Sys2Proof.Machine.execTermsSetTaken sender payload s
  | .testTaken sender payload => Sys2Proof.Machine.execTestTaken sender payload s
  | .roundTick => Sys2Proof.Machine.execRoundTick s
  | .peerDeparture station => Sys2Proof.Machine.execPeerDeparture station s
  | .listenEnd => Sys2Proof.Machine.execListenEnd s
  | .rebuildEnd => Sys2Proof.Machine.execRebuildEnd s
  | .confirmEnd => Sys2Proof.Machine.execConfirmEnd s
  | .shadowRemoval station => Sys2Proof.Machine.execShadowRemoval station s
  | .holdExpiry station => Sys2Proof.Machine.execHoldExpiry station s
  | .backoffEnd => Sys2Proof.Machine.execBackoffEnd s
  | .boostExpires => Sys2Proof.Machine.execBoostExpires s
  | .tachEdge fan time => Sys2Proof.Machine.execTachEdge fan time s
  | .kickEnds fan => Sys2Proof.Machine.execKickEnds fan s
  | .speedLoopStep fan => Sys2Proof.Machine.execSpeedLoopStep fan s
  | .stallWindowExpires fan => Sys2Proof.Machine.execStallWindowExpires fan s
  | .fanRestartWaitEnds fan => Sys2Proof.Machine.execFanRestartWaitEnds fan s
  | .runningTimeReached fan => Sys2Proof.Machine.execRunningTimeReached fan s
  | .scan tO tS tE tX hE => Sys2Proof.Machine.execScan tO tS tE tX hE s
  | .stepTimerExpires => Sys2Proof.Machine.execStepTimerExpires s
  | .clearTimerExpires => Sys2Proof.Machine.execClearTimerExpires s
  | .stopTimerExpires => Sys2Proof.Machine.execStopTimerExpires s
  | .thawTimerExpires => Sys2Proof.Machine.execThawTimerExpires s
  | .reTakeWaitEnds => Sys2Proof.Machine.execReTakeWaitEnds s
  | .humidityMinute => Sys2Proof.Machine.execHumidityMinute s
  | .restEnd => Sys2Proof.Machine.execRestEnd s
  | .boostHourEnd => Sys2Proof.Machine.execBoostHourEnd s
  | .accountingMinute => Sys2Proof.Machine.execAccountingMinute s
  | .referenceLearnt filter => Sys2Proof.Machine.execReferenceLearnt filter s
  | .hourMark => Sys2Proof.Machine.execHourMark s
  | .trimPeriodEnd => Sys2Proof.Machine.execTrimPeriodEnd s
  | .nvWriteEnds => Sys2Proof.Machine.execNvWriteEnds s
  | .nvRestore => Sys2Proof.Machine.execNvRestore s
  | .minuteEntered => Sys2Proof.Machine.execMinuteEntered s
  | .slewSecond => Sys2Proof.Machine.execSlewSecond s
  | .blinkToggle => Sys2Proof.Machine.execBlinkToggle s
  | .panelAssemblyTimeout chars => Sys2Proof.Machine.execPanelAssemblyTimeout chars s
  | .badFormat chars => Sys2Proof.Machine.execBadFormat chars s
  | .replySent => Sys2Proof.Machine.execReplySent s
  | .statusRead => Sys2Proof.Machine.execStatusRead s
  | .modeSet mode minutes => Sys2Proof.Machine.execModeSet mode minutes s
  | .timeSet time => Sys2Proof.Machine.execTimeSet time s
  | .scheduleWrite index entry => Sys2Proof.Machine.execScheduleWrite index entry s
  | .scheduleRead index => Sys2Proof.Machine.execScheduleRead index s
  | .filterAck filter => Sys2Proof.Machine.execFilterAck filter s
  | .filterReset filter => Sys2Proof.Machine.execFilterReset filter s
  | .fanClear fan => Sys2Proof.Machine.execFanClear fan s
  | .peerRead station => Sys2Proof.Machine.execPeerRead station s
  | .queueRead => Sys2Proof.Machine.execQueueRead s
  | .termsSet payload => Sys2Proof.Machine.execTermsSet payload s
  | .lineTest seed count => Sys2Proof.Machine.execLineTest seed count s
  | .tallyRead => Sys2Proof.Machine.execTallyRead s
  | .eventsClear mask => Sys2Proof.Machine.execEventsClear mask s
  | .restart => Sys2Proof.Machine.execRestart s
  | .restartWaitExpires => Sys2Proof.Machine.execRestartWaitExpires s
  | .lineBusy startHeld => Sys2Proof.Machine.execLineBusy startHeld s
  | .powerLoss => Sys2Proof.Machine.execPowerLoss s

end Sys2Proof.Machine
end

