-- ==== Sys2Proof/Machine/Tick.lean ====
section
/-! DEFINITION. Elapsed time: what 1/64 s of the local oscillator does when no command waits (log 1). Every running timer
loses one tick, and each timer that has come to its end brings its own event, in the order written here (log 3). -/

namespace Sys2Proof.Machine

/-- An event brought by elapsed time when it is due. -/
def whenDue (due : State → Bool) (event : State → State) (s : State) : State := if due s then event s else s

/-- One tick of a fan's timers; the running time counts to 60 s in RUNNING (R77). -/
def Fan.elapse (f : Fan) : Fan :=
  { f with stateTimer := tickDown f.stateTimer, stallWindow := tickDown f.stallWindow, loopTimer := tickDown f.loopTimer,
           runTime := if f.state = .running then min runTicks (f.runTime + 1) else f.runTime }

/-- One tick of the frost guard's timers; the preheat-on time counts while the output is on (R101, R110). -/
def Frost.elapse (f : Frost) : Frost :=
  { f with stepTimer := tickDown f.stepTimer, clearTimer := tickDown f.clearTimer, stopTimer := tickDown f.stopTimer,
           thawTimer := tickDown f.thawTimer, reTake := tickDown f.reTake,
           preheatOn := if f.preheater then min (seconds 1800) (f.preheatOn + 1) else f.preheatOn }

/-- One tick of every running timer and count of elapsed time; no event is taken yet. -/
def elapse (s : State) : State :=
  countHolds { s with
    peers := { s.peers with roundTimer := tickDown s.peers.roundTimer }
    mode := { s.mode with boost := tickDown s.mode.boost }
    supplyFan := s.supplyFan.elapse
    extractFan := s.extractFan.elapse
    frost := s.frost.elapse
    filters := { s.filters with minuteTimer := tickDown s.filters.minuteTimer }
    clock := { s.clock with second := (s.clock.second + 1) % Config.ticksPerSecond }
    sensors := { s.sensors with scanTimer := tickDown s.sensors.scanTimer }
    lamp := { s.lamp with timer := tickDown s.lamp.timer }
    panel := { s.panel with restartWait := tickDown s.panel.restartWait } }

/-- The oscillator's advance, and once a second a running slew (R166, R169). -/
def runClock (s : State) : State :=
  let s1 := if minuteDue s then settle (enterMinute s) else oscillate s
  if s1.clock.second = 0 && s1.clock.slew ≠ 0 then settle (slewOnce s1) else s1

/-- The events of one fan's timers. -/
def runFan (side : Side) (s : State) : State :=
  let s1 := whenDue (fun s => (fanOf s side).state = .starting && atEnd (fanOf s side).stateTimer) (endKick side) s
  let s2 := whenDue (fun s => atEnd (fanOf s side).loopTimer) (stepLoop side) s1
  let s3 := whenDue (fun s => atEnd (fanOf s side).stallWindow) (endStallWindow side) s2
  let s4 := whenDue (fun s => (fanOf s side).state = .stalled && atEnd (fanOf s side).stateTimer) (endRestartWait side) s3
  whenDue (fun s => (fanOf s side).runTime = runTicks) (reachRunningTime side) s4

/-- The events of the frost guard's timers. -/
def runFrost (s : State) : State :=
  let s1 := whenDue (fun s => atEnd s.frost.clearTimer) endClear s
  let s2 := whenDue (fun s => atEnd s.frost.stopTimer) endStop s1
  let s3 := whenDue (fun s => atEnd s.frost.stepTimer) endStep s2
  let s4 := whenDue (fun s => atEnd s.frost.thawTimer) endThawTimer s3
  whenDue (fun s => atEnd s.frost.reTake) endReTake s4

/-- The hold expiries that are due. -/
def runHolds (s : State) : State := (heldTooLong s).foldl (fun t j => takeHoldExpiry j t) s

/-- 1/64 s of elapsed time. The line's bit times come first, then the events at the tick's end. A nonvolatile write that is in
flight ends within it (R163 "up to 20 ms", log 16). A scan waits at the end of its timer for its conversions, which come with
SCAN. -/
def passTick (s : State) : State :=
  let s1 := runClock (takeRestore (endWrite (elapse (runLine s))))
  let s2 := whenDue (fun s => atEnd s.mode.boost) endBoost s1
  let s3 := runFan .extract (runFan .supply s2)
  let s4 := whenDue (fun s => atEnd s.peers.roundTimer) takeRoundTick s3
  let s5 := runHolds (runFrost s4)
  let s6 := whenDue (fun s => atEnd s.filters.minuteTimer) takeAccountingMinute s5
  let s7 := whenDue (fun s => atEnd s.lamp.timer) toggleBlink s6
  whenDue (fun s => atEnd s.panel.restartWait) endPanelWait s7

end Sys2Proof.Machine
end

