-- ==== Sys2Proof/WellFormed.lean ====
section
/-! DEFINITION. Which commands are well formed: their operands can arise from the event the row names. A command that is not
well formed changes nothing when it is run (log 2). -/

namespace Sys2Proof

/-- The characters of a broken frame hold a receive error (R7). -/
def wfBroken (chars : List CharLevels) : Bool := (Machine.receiveFault (Machine.receiveChars chars)).isSome

/-- The characters that a gap interrupts leave a request in assembly (R184). -/
def wfGap (chars : List RxChar) : Bool := Machine.partialRequest (Machine.panelBytes chars)

/-- The characters make a request that the port answers by itself (R184). -/
def wfBad (chars : List RxChar) : Bool := (Machine.formatReply (Machine.assemble (Machine.panelBytes chars))).isSome

/-- Every other operand is a number, a byte layout or a reading of fixed width, all of whose values can occur: what is out of
range there is refused or judged by the rule of the command itself. -/
def Instr.wf (i : Instr) : Bool :=
  match i with
  | .powerOn => true
  | .resetAsserted => true
  | .strapSample _ => true
  | .lineIdle => true
  | .slotBegins => true
  | .lostTheLine => true
  | .driverFault => true
  | .ownFrameComplete => true
  | .receiveError chars => wfBroken chars
  | .lineStuck => true
  | .statusTaken _ _ => true
  | .takeTaken _ _ => true
  | .giveTaken _ _ => true
  | .termsQueryTaken _ => true
  | .termsSetTaken _ _ => true
  | .testTaken _ _ => true
  | .roundTick => true
  | .peerDeparture _ => true
  | .listenEnd => true
  | .rebuildEnd => true
  | .confirmEnd => true
  | .shadowRemoval _ => true
  | .holdExpiry _ => true
  | .backoffEnd => true
  | .boostExpires => true
  | .tachEdge _ _ => true
  | .kickEnds _ => true
  | .speedLoopStep _ => true
  | .stallWindowExpires _ => true
  | .fanRestartWaitEnds _ => true
  | .runningTimeReached _ => true
  | .scan _ _ _ _ _ => true
  | .stepTimerExpires => true
  | .clearTimerExpires => true
  | .stopTimerExpires => true
  | .thawTimerExpires => true
  | .reTakeWaitEnds => true
  | .humidityMinute => true
  | .restEnd => true
  | .boostHourEnd => true
  | .accountingMinute => true
  | .referenceLearnt _ => true
  | .hourMark => true
  | .trimPeriodEnd => true
  | .nvWriteEnds => true
  | .nvRestore => true
  | .minuteEntered => true
  | .slewSecond => true
  | .blinkToggle => true
  | .panelAssemblyTimeout chars => wfGap chars
  | .badFormat chars => wfBad chars
  | .replySent => true
  | .statusRead => true
  | .modeSet _ _ => true
  | .timeSet _ => true
  | .scheduleWrite _ _ => true
  | .scheduleRead _ => true
  | .filterAck _ => true
  | .filterReset _ => true
  | .fanClear _ => true
  | .peerRead _ => true
  | .queueRead => true
  | .termsSet _ => true
  | .lineTest _ _ => true
  | .tallyRead => true
  | .eventsClear _ => true
  | .restart => true
  | .restartWaitExpires => true
  | .lineBusy _ => true
  | .powerLoss => true

end Sys2Proof
end

