-- ==== Sys2Proof/Safety.lean ====
section
/-! DEFINITION. What a safe run is: no command stops the station, and the rules below hold in every state a step answers when
they hold before it. Each rule is what the manual says of the station at every moment. -/

namespace Sys2Proof.Machine

/-- A step that answers a state: no fault and no refusal. -/
def Answers (r : Result) : Prop := ∃ t, r = .next t

/-- A property that every step keeps. -/
def Kept (P : State → Prop) : Prop := ∀ s t, P s → step s = .next t → P t

/-! ### Fans (R68 to R77) -/

/-- The duty and the measured speed that a state of the fan allows (R69, R70), and the attempts it can be entered with (R74 to
R77). -/
def Fan.ruled (f : Fan) : Prop :=
  f.measured ≤ 4000 ∧
  match f.state with
  | .stopped => f.duty = 0 ∧ f.measured = 0 ∧ f.attempts < 5
  | .starting => f.duty = 128 ∧ f.attempts < 5
  | .running => 20 ≤ f.duty ∧ f.duty ≤ 255 ∧ f.attempts < 5
  | .stalled => f.duty = 0 ∧ f.measured = 0 ∧ f.attempts ≤ 5
  | .failed => f.duty = 0 ∧ f.measured = 0 ∧ f.attempts = 5

def fansRuled (s : State) : Prop := s.supplyFan.ruled ∧ s.extractFan.ruled

/-! ### Preheater and eligibility (R110, R135) -/

/-- The frost guard has been told the eligibility as it stands (R135). -/
def told (s : State) : Prop := s.own.eligible = eligibleNow s

/-- The preheater is on only in PREHEAT, with the supply fan RUNNING and the station eligible (R110). -/
def preheaterRuled (s : State) : Prop :=
  s.frost.preheater = true → s.frost.stage = .preheat ∧ s.supplyFan.state = .running ∧ eligibleNow s = true

/-! ### The riser and frost STOP (R66, R83, R106) -/

/-- The claim is the final extract target, never above the held cap, and the cap never above the demand; before the strap
latch there is no claim. -/
def claimRuled (s : State) : Prop :=
  s.stack.claim = s.plan.extract ∧ s.stack.claim ≤ s.stack.cap ∧ s.stack.cap ≤ s.stack.demand
    ∧ (s.join.straps = none → s.stack.claim = 0)

/-- The held cap is the one that R82 gives the held demand under the conditions as they stand (R83, R84, R87). -/
def capFormed (s : State) : Prop := s.stack.cap = capFor s s.stack.demand

/-- In frost STOP both targets and the claim are 0 and the humidity state is IDLE (R106). -/
def stopRuled (s : State) : Prop :=
  s.frost.stage = .stop → s.plan.supply = 0 ∧ s.plan.extract = 0 ∧ s.stack.claim = 0 ∧ s.humid.state = .idle

/-! ### The queue copy (R115) -/

/-- No two entries for one station; with sixteen numbers, no more than sixteen entries. -/
def queueRuled (s : State) : Prop := (s.queue.entries.map Entry.station).Nodup

/-- In SYNCED and UNSURE every entry is less than 240 serials back and the entries stand oldest first, those at the same
distance in the order of their numbers (R116, R131). -/
def orderRuled (s : State) : Prop :=
  s.queue.state ≠ .rebuild →
    (∀ e ∈ s.queue.entries, serialDistance s.queue.n e.serial < 240) ∧
    s.queue.entries.Pairwise (fun a b =>
      serialDistance s.queue.n b.serial < serialDistance s.queue.n a.serial ∨
      (serialDistance s.queue.n b.serial = serialDistance s.queue.n a.serial ∧ a.station ≤ b.station))

/-! ### The indicator (R180) -/

/-- The indicator is at the level its conditions ask for. -/
def lampRuled (s : State) : Prop := s.lamp.level = lampLevel s

/-! ### Ranges -/

/-- Terrace time and slew lie in their ranges (R165). -/
def clockRuled (s : State) : Prop :=
  s.clock.time < 604800 ∧ s.clock.sub < 64 ∧ -128 ≤ s.clock.slew ∧ s.clock.slew ≤ 128

/-- The terms in force, the panel set and the best heard set are usable (R48, R52, R53). -/
def termsRuled (s : State) : Prop :=
  s.join.terms.usable = true ∧ (∀ t, s.join.panelSet = some t → t.usable = true)
    ∧ (∀ b, s.join.best = some b → b.terms.usable = true)

/-- The line interface's counts lie in their ranges, the slot count of 64 slots of 2 bit times among them (R9, R13, R19,
R24). -/
def countsRuled (s : State) : Prop :=
  s.line.errors ≤ 31 ∧ s.line.collisions ≤ 255 ∧ s.line.tally.received ≤ 255 ∧ s.line.tally.mismatched ≤ 255
    ∧ (∀ t, s.line.slotTime = some t → t < 128)

/-- In STUCK the receiver forms no frames: it is not ready until the idle that ends STUCK (R7, R20, R42). -/
def receiverRuled (s : State) : Prop := s.line.condition = .stuck → s.line.receiverReady = false

/-- A channel: a reading in its range while it is VALID and only then, and its runs below the counts that end them (R177). -/
def Channel.ruled (low high : Int) (c : Channel) : Prop :=
  c.bad ≤ 2 ∧ c.good ≤ 1 ∧
  match c.state with
  | .starting => c.reading = none
  | .valid => ∃ v, c.reading = some v ∧ low ≤ v ∧ v ≤ high
  | .invalid => c.reading = none

def sensorsRuled (s : State) : Prop :=
  s.sensors.tO.ruled (-400) 850 ∧ s.sensors.tS.ruled (-400) 850 ∧ s.sensors.tE.ruled (-400) 850
    ∧ s.sensors.tX.ruled (-400) 850 ∧ s.sensors.hE.ruled 0 100

/-- The humidity monitor's accumulator, ring and minutes lie in their ranges (R139). -/
def humidRuled (s : State) : Prop :=
  s.humid.count ≤ 29 ∧ s.humid.sum ≤ 100 * s.humid.count ∧ s.humid.ring.length ≤ 10 ∧ (∀ a ∈ s.humid.ring, a ≤ 100)
    ∧ s.humid.boostMinutes ≤ 60 ∧ s.humid.restMinutes ≤ 30

/-- A peer record holds fields while it is PRESENT or STALE and only then, and is never older than two ticks (R34, R37). -/
def PeerRecord.ruled (r : PeerRecord) : Prop :=
  match r.presence with
  | .absent => r.age = 0 ∧ r.fields = none
  | .present => r.age ≤ 1 ∧ r.fields.isSome = true
  | .stale => r.age = 2 ∧ r.fields.isSome = true

def peersRuled (s : State) : Prop := ∀ j : Station, (s.peers.records.get j).ruled

end Sys2Proof.Machine
end

