-- ==== Sys2Proof/Certificates/Slice0/Obligations.lean ====
section
/-! DEFINITION. The statements about the station, each a Prop of its own. `settle` is what every event ends with, and
EndOfEvent says what it does; a statement of the form exec c s = next (settle t) says the command's own effect as t. -/

open Sys2Proof Sys2Proof.Machine

/-! ### Steps and starts -/

/-- A step runs the command at the front of the queue on the state with the queue's rest. -/
def Obligations.StepRunsTheFrontCommand : Prop :=
  ∀ (c : Instr) (rest : List Instr) (s : State),
    step { s with pending := c :: rest } = exec c { s with pending := rest }

/-- No command and no step stops the station. That an event the state does not take, or one not well formed, answers the
state it finds and no fault is the model's choice (log 2), and so it is for a station held by reset or without power (log
17). -/
def Obligations.EveryCommandAnswers : Prop :=
  (∀ (c : Instr) (s : State), Answers (exec c s)) ∧ (∀ s : State, Answers (step s))

/-- The frame of every command. None moves the queue of commands. Only the three that change the supply or the reset input move
that; only those and NV_WRITE_ENDS move the nonvolatile record (R163); only those and SCHEDULE_WRITE the schedule (R171);
only those and EVENTS_CLEAR clear an event flag (R188); only those, ACCOUNTING_MINUTE, FILTER_RESET and NV_RESTORE move the
used counts (R153, R159, R164). -/
def Obligations.EveryCommandsFrame : Prop :=
  ∀ (c : Instr) (s t : State), exec c s = .next t →
    t.pending = s.pending ∧
    (c ≠ .powerOn → c ≠ .resetAsserted → c ≠ .powerLoss →
      t.power = s.power ∧
      (c ≠ .nvWriteEnds → t.nv = s.nv) ∧
      ((∀ i e, c ≠ .scheduleWrite i e) → t.clock.schedule = s.clock.schedule) ∧
      ((∀ m, c ≠ .eventsClear m) → ∀ g : EventFlag, raised g s = true → raised g t = true) ∧
      (c ≠ .accountingMinute → c ≠ .nvRestore → (∀ b, c ≠ .filterReset b) →
        t.filters.supply.used = s.filters.supply.used ∧ t.filters.extract.used = s.filters.extract.used))

/-- One tick of a fan's timers; the running time counts in RUNNING, to 60 s (R77). -/
def Sys2Proof.Machine.fanTicked (f : Fan) : Fan :=
  { f with stateTimer := f.stateTimer.map (· - 1), stallWindow := f.stallWindow.map (· - 1),
           loopTimer := f.loopTimer.map (· - 1),
           runTime := if f.state = .running then min (60 * 64) (f.runTime + 1) else f.runTime }

/-- One tick of every running timer and of every count of elapsed time, no event taken yet. -/
def Sys2Proof.Machine.ticked (s : State) : State :=
  { s with
    peers := { s.peers with roundTimer := s.peers.roundTimer.map (· - 1) }
    mode := { s.mode with boost := s.mode.boost.map (· - 1) }
    supplyFan := fanTicked s.supplyFan
    extractFan := fanTicked s.extractFan
    frost := { s.frost with
      stepTimer := s.frost.stepTimer.map (· - 1), clearTimer := s.frost.clearTimer.map (· - 1),
      stopTimer := s.frost.stopTimer.map (· - 1), thawTimer := s.frost.thawTimer.map (· - 1),
      reTake := s.frost.reTake.map (· - 1),
      preheatOn := if s.frost.preheater then min (1800 * 64) (s.frost.preheatOn + 1) else s.frost.preheatOn }
    queue := { s.queue with
      entries := s.queue.entries.map (fun e => if granted s e.station then { e with hold := e.hold + 1 } else e) }
    filters := { s.filters with minuteTimer := s.filters.minuteTimer.map (· - 1) }
    clock := { s.clock with second := (s.clock.second + 1) % 64 }
    sensors := { s.sensors with scanTimer := s.sensors.scanTimer.map (· - 1) }
    lamp := { s.lamp with timer := s.lamp.timer.map (· - 1) }
    panel := { s.panel with restartWait := s.panel.restartWait.map (· - 1) } }

/-- The events that one fan's timers bring at their ends. -/
def Sys2Proof.Machine.fanBrings (d : Side) : List (State → List Instr) :=
  [fun s => if (fanOf s d).state = .starting ∧ (fanOf s d).stateTimer = some 0 then [.kickEnds d] else [],
   fun s => if (fanOf s d).loopTimer = some 0 then [.speedLoopStep d] else [],
   fun s => if (fanOf s d).stallWindow = some 0 then [.stallWindowExpires d] else [],
   fun s => if (fanOf s d).state = .stalled ∧ (fanOf s d).stateTimer = some 0 then [.fanRestartWaitEnds d] else [],
   fun s => if (fanOf s d).runTime = 60 * 64 then [.runningTimeReached d] else []]

/-- The events that timers bring at their ends, in the model's order (log 3). -/
def Sys2Proof.Machine.timersBring : List (State → List Instr) :=
  [fun s => if s.mode.boost = some 0 then [.boostExpires] else []] ++ fanBrings .supply ++ fanBrings .extract ++
  [fun s => if s.peers.roundTimer = some 0 then [.roundTick] else [],
   fun s => if s.frost.clearTimer = some 0 then [.clearTimerExpires] else [],
   fun s => if s.frost.stopTimer = some 0 then [.stopTimerExpires] else [],
   fun s => if s.frost.stepTimer = some 0 then [.stepTimerExpires] else [],
   fun s => if s.frost.thawTimer = some 0 then [.thawTimerExpires] else [],
   fun s => if s.frost.reTake = some 0 then [.reTakeWaitEnds] else [],
   fun s => (s.queue.entries.filter (fun e => decide (s.join.terms.holdLimit * 64 ≤ e.hold))).map
     (fun e => .holdExpiry e.station),
   fun s => if s.filters.minuteTimer = some 0 then [.accountingMinute] else [],
   fun s => if s.lamp.timer = some 0 then [.blinkToggle] else [],
   fun s => if s.panel.restartWait = some 0 then [.restartWaitExpires] else []]

/-- The commands run one after the other. -/
def Sys2Proof.Machine.takes (s : State) (commands : List Instr) : State :=
  commands.foldl (fun t c => match exec c t with
    | .next u => u
    | .fault _ => t
    | .refused _ => t) s

/-- The clock's part of a tick: the next minute entered, an advance of the sub-second count, or one withheld (R166, R169). -/
def Sys2Proof.Machine.clockTicked (s : State) : State :=
  if s.clock.withhold = 0 ∧ 63 ≤ s.clock.sub ∧ (s.clock.time + 1) % 60 = 0 then takes s [.minuteEntered]
  else if s.clock.withhold = 0 ∧ s.clock.sub < 63 then { s with clock := { s.clock with sub := s.clock.sub + 1 } }
  else if s.clock.withhold = 0 then { s with clock := { s.clock with time := s.clock.time + 1, sub := 0 } }
  else { s with clock := { s.clock with withhold := s.clock.withhold - 1 } }

/-- The model's choice (log 1, log 3): on an empty queue a running station lets 1/64 s pass. The line's bit times run, every
running timer loses one tick, a write in flight ends and the restore is made when it can be (log 16), the clock advances,
once a second a running slew makes its step, and then each timer that has come to its end brings its own event, as the
command of that event, in a fixed order. With no slew running and no restart wait the sub-second count advances by one, past
63 into the next second, and past 604799 into 0 (R166). A station held by reset or without power idles (R182). -/
def Obligations.IdleStepRunsTheClock : Prop :=
  ∀ s : State, s.pending = [] →
    (s.power ≠ .running → step s = .next s) ∧
    (s.power = .running →
      let timed := clockTicked (takes (ticked (runLine s)) [.nvWriteEnds, .nvRestore])
      let slewed := if timed.clock.second = 0 ∧ timed.clock.slew ≠ 0 then takes timed [.slewSecond] else timed
      step s = .next (timersBring.foldl (fun t due => takes t (due t)) slewed)) ∧
    (seconds 1 = 64 ∧ loopTicks = 16 ∧ blinkTicks = 32) ∧
    (s.power = .running → clockRuled s → s.clock.slew = 0 → s.clock.withhold = 0 → s.panel.restartWait = none →
      ∃ t, step s = .next t ∧
        t.clock.sub = (if s.clock.sub < 63 then s.clock.sub + 1 else 0) ∧
        t.clock.time = (if s.clock.sub < 63 then s.clock.time else (s.clock.time + 1) % 604800))

/-- A power-on start, an assertion of the reset input and a loss of power keep nothing but the nonvolatile record; a write
in flight leaves it with a bad check (R43, R163, R182). The queue of commands is the model's own and is kept. While the
reset input is asserted, or without power, every command but the three that change the supply or the reset input leaves the
station as it is (R182; log 17). Which bad check a cut-off write leaves is a free value (log 8);
that a loss with a write queued leaves a bad check too is the model's choice (log 36). -/
def Obligations.StartsKeepOnlyTheRecord : Prop :=
  (∀ s : State, ∃ (nv : Nv) (torn : Nat),
     exec .powerOn s = .next { State.reset with nv := nv, torn := torn, pending := s.pending } ∧
     exec .powerLoss s = .next { State.reset with power := .off, nv := nv, torn := torn, pending := s.pending } ∧
     (s.power ≠ .off →
       exec .resetAsserted s = .next { State.reset with power := .held, nv := nv, torn := torn, pending := s.pending }) ∧
     nv.content = s.nv.content ∧
     (s.filters.save = .idle → nv = s.nv ∧ torn = s.torn) ∧
     (s.filters.save ≠ .idle → nv.good = false)) ∧
  (∀ (c : Instr) (s : State), s.power ≠ .running → c ≠ .powerOn → c ≠ .resetAsserted → c ≠ .powerLoss →
     exec c s = .next s)

/-- The values the rules give for a power-on start (R10, R19, R20, R22, R24, R25, R34, R40, R43, R57, R62, R68, R80, R93, R115,
R139, R165, R177, R183). -/
def Obligations.PowerOnValues : Prop :=
  State.reset.line.condition = .clear ∧ State.reset.line.cause = .none ∧ State.reset.line.errors = 0 ∧
  State.reset.line.lastSender = 15 ∧ State.reset.line.collisions = 0 ∧ State.reset.line.run = none ∧
  State.reset.line.tally = { sender := none, received := 0, mismatched := 0 } ∧ State.reset.line.receiverOn = false ∧
  State.reset.out = { give := false, take := false, status := false, test := false, terms := none } ∧
  State.reset.peers.roundTimer = none ∧ (∀ j : Station, State.reset.peers.records.get j = .cleared) ∧
  presenceCount State.reset = 1 ∧ State.reset.peers.ownReport = none ∧ State.reset.peers.unusable = 0 ∧
  State.reset.join.membership = .straps ∧ State.reset.join.straps = none ∧ State.reset.join.terms = .defaults ∧
  State.reset.join.panelSet = none ∧ State.reset.join.best = none ∧ State.reset.join.querySent = false ∧
  State.reset.join.skew = false ∧
  State.reset.mode = { held := none, boost := none, scheduled := none } ∧
  State.reset.plan.supply = 0 ∧ State.reset.plan.extract = 0 ∧ State.reset.plan.curbed = false ∧
  State.reset.supplyFan.state = .stopped ∧ State.reset.supplyFan.duty = 0 ∧ State.reset.supplyFan.attempts = 0 ∧
  State.reset.extractFan = State.reset.supplyFan ∧
  State.reset.stack = { demand := 0, cap := 0, claim := 0, backoff := 0 } ∧
  State.reset.frost.stage = .clear ∧ State.reset.frost.reduction = 0 ∧ State.reset.frost.blind = false ∧
  State.reset.frost.tLim = 40 ∧ State.reset.frost.stepTimer = none ∧ State.reset.frost.reTake = none ∧
  State.reset.frost.preheater = false ∧
  State.reset.queue = { entries := [], n := 0, nSet := false, state := .rebuild, rebuild := 0, confirm := 0, stale := 0,
                        late := 0 } ∧
  State.reset.own.outstanding = false ∧ State.reset.own.leaving = none ∧
  State.reset.humid = { sum := 0, count := 0, ring := [], state := .idle, boostMinutes := 0, restMinutes := 0,
                        frostStop := false } ∧
  State.reset.clock.time = 0 ∧ State.reset.clock.sub = 0 ∧ State.reset.clock.slew = 0 ∧ State.reset.clock.source = none ∧
  (∀ i : Fin 8, State.reset.clock.schedule.get i = none) ∧
  State.reset.sensors.scanTimer = none ∧ State.reset.sensors.tX = { state := .starting, reading := none, bad := 0, good := 0 } ∧
  State.reset.panel.phase = .hunt ∧ State.reset.panel.reply = .none ∧ State.reset.panel.restartWait = none ∧
  State.reset.events = 0

/-- Two of three. -/
def Sys2Proof.Machine.twoOfThree (a b c : Bool) : Bool := (a && b) || (a && c) || (b && c)

/-- A strap sample reads each input as it is driven, and an input that nothing drives at its internal level: number and
pull-up high, override and class low (R181). In STRAPS the first two strap samples are held and the third latches, input by
input, what two of the three agree on: the straps, the receiver and pull-up, the round, scan and accounting timers, LISTEN,
and the start of REBUILD (R2, R4, R25, R44, R45, R46, R118, R151, R175). -/
def Obligations.ThirdStrapSampleLatches : Prop :=
  (∀ (x : StrapInputs) (i : Fin 8), (strapLevels x).getLsbD i =
     if x.floating.getLsbD i then decide (i.val < 5) else x.levels.getLsbD i) ∧
  (∀ (s : State) (x y z : StrapInputs), s.power = .running → s.join.membership = .straps →
    let a := strapLevels x
    let b := strapLevels y
    let c := strapLevels z
    (s.join.samples = [] →
      exec (.strapSample x) s = .next { s with join := { s.join with samples := [a] } }) ∧
    (s.join.samples = [a] →
      exec (.strapSample y) s = .next { s with join := { s.join with samples := [a, b] } }) ∧
    (s.join.samples = [a, b] →
      ∃ (t : State) (l : Straps), exec (.strapSample z) s = .next t ∧
        t.join.membership = .listen ∧ t.join.straps = some l ∧
        (∀ i : Fin 4, l.number.val.testBit i = twoOfThree (a.getLsbD i) (b.getLsbD i) (c.getLsbD i)) ∧
        l.pullUp = twoOfThree (a.getLsbD 4) (b.getLsbD 4) (c.getLsbD 4) ∧
        l.override = twoOfThree (a.getLsbD 5) (b.getLsbD 5) (c.getLsbD 5) ∧
        (∀ i : Fin 2, l.fanClass.val.testBit i = twoOfThree (a.getLsbD (6 + i)) (b.getLsbD (6 + i)) (c.getLsbD (6 + i))) ∧
        t.line.receiverOn = true ∧ t.line.receiverReady = false ∧ t.line.idle = false ∧ t.line.pullUp = l.pullUp ∧
        t.peers.roundTimer = some (seconds 4) ∧ t.sensors.scanTimer = some (seconds 2) ∧
        t.filters.minuteTimer = some (seconds 60) ∧
        t.queue.state = .rebuild ∧ t.queue.rebuild = 2 ∧ t.queue.entries = [] ∧ t.queue.nSet = false ∧ t.queue.n = 0 ∧
        (s.line.condition = .clear → t.out.terms = some .query) ∧
        t.mode = s.mode ∧ t.clock = s.clock ∧ t.nv = s.nv ∧ t.panel = s.panel))

/-! ### What every event ends with -/

/-- The fields that the end of an event never moves. -/
def Sys2Proof.Machine.sameBase (s t : State) : Prop :=
  t.power = s.power ∧ t.line = s.line ∧ t.peers = s.peers ∧ t.join = s.join ∧ t.mode = s.mode ∧ t.queue = s.queue ∧
  t.nv = s.nv ∧ t.torn = s.torn ∧ t.clock = s.clock ∧ t.sensors = s.sensors ∧ t.panel = s.panel ∧ t.pending = s.pending ∧
  t.out.status = s.out.status ∧ t.out.test = s.out.test ∧ t.out.terms = s.out.terms ∧
  t.filters.supply = s.filters.supply ∧ t.filters.extract = s.filters.extract ∧ t.filters.trim = s.filters.trim ∧
  t.filters.save = s.filters.save ∧ t.filters.restored = s.filters.restored ∧
  t.filters.minuteTimer = s.filters.minuteTimer ∧ t.filters.minuteCount = s.filters.minuteCount ∧
  t.filters.period = s.filters.period ∧ t.filters.fromFloor = s.filters.fromFloor

/-- The conditions of R160 that events make fail: a boost, a frost stage other than CLEAR, a fan not RUNNING. -/
def Sys2Proof.Machine.spoiledByEvents (s : State) : Prop :=
  s.mode.boost.isSome = true ∨ s.humid.state = .boost ∨ s.frost.stage ≠ .clear ∨ s.supplyFan.state ≠ .running ∨
  s.extractFan.state ≠ .running

/-- The conditions of R160 that a scan makes fail: a temperature not VALID, T_e − T_o below 100. -/
def Sys2Proof.Machine.spoiledByScan (s : State) : Prop :=
  s.sensors.tO.value = none ∨ s.sensors.tS.value = none ∨ s.sensors.tE.value = none ∨ s.sensors.tX.value = none ∨
  (∃ o e, s.sensors.tO.value = some o ∧ s.sensors.tE.value = some e ∧ e - o < 100)

/-- The marks that the end of an event forms from the state it leaves: the trim period is spoiled from the first event that
makes a condition fail (R160), and a minute goes on qualifying only while its fan is RUNNING (R154). -/
def Sys2Proof.Machine.marksFollow : Prop :=
  ∀ s : State,
    let t := settle s
    (t.filters.spoiled = true ↔ s.filters.spoiled = true ∨ spoiledByEvents t) ∧
    (t.filters.supplyMinute = true ↔ s.filters.supplyMinute = true ∧ t.supplyFan.state = .running) ∧
    (t.filters.extractMinute = true ↔ s.filters.extractMinute = true ∧ t.extractFan.state = .running)

/-- The eight steps of R63, with the class's row, from the inputs as they stand in a state and the stack cap: the demand D,
the supply target and the extract target. -/
def Sys2Proof.Machine.eightSteps (row : ClassRow) (s : State) (cap : Nat) : Nat × Nat × Nat :=
  let base := match baseMode s.mode with
    | .normal => row.normal
    | .night => row.night
    | .away => row.away
    | .off => 0
  let boosted := if s.mode.boost.isSome = true ∨ s.humid.state = .boost then max base row.boost else base
  let demand :=
    if s.filters.supply.state = .overdue ∨ s.filters.extract.state = .overdue then min boosted row.normal else boosted
  let extract := min demand cap
  let reduced := demand * (100 - s.frost.reduction) / 100
  let supply : Nat := if reduced = 0 then 0 else (max 0 (min 255 ((reduced : Int) + s.filters.trim))).toNat
  let limit := s.join.terms.imbalance
  let balanced : Nat × Nat :=
    if supply * 100 < extract * (100 - limit) then (supply, supply * 100 / (100 - limit))
    else if extract * (100 + limit) < supply * 100 then (extract * (100 + limit) / 100, extract)
    else (supply, extract)
  let stopped : Nat × Nat :=
    if effectiveMode s = .off ∨ effectiveMode s = .frostStop ∨ s.join.membership ≠ .joined then (0, 0)
    else if s.supplyFan.state = .failed ∧ s.extractFan.state = .failed then (0, 0)
    else if s.supplyFan.state = .failed then (0, min row.away cap)
    else if s.extractFan.state = .failed then (row.away, 0)
    else balanced
  (demand, stopped)

/-- The evaluation on a change of own demand, at the end of an event (R83, R85, R87): a new demand gets the cap of R82, and a cap
that was formed for its demand stays so; when the composition has ended, its claim under that cap is checked against the limit.
With at most sixteen stations on the riser no claim under such a cap is over it, so that no backoff begins. -/
def Sys2Proof.Machine.ownDemandEvaluated : Prop :=
  ∀ s : State,
    let t := settle s
    (t.stack.demand ≠ s.stack.demand ∨ capFormed s → capFormed t) ∧
    (presenceCount s ≤ 16 → t.stack.backoff = s.stack.backoff ∧ raised .stackCut t = raised .stackCut s) ∧
    (∀ x : Straps, s.join.straps = some x → told s → s.frost.stage ≠ .preheat →
       (∀ d : Side, (fanOf s d).state = .stalled → (fanOf s d).attempts < 5) →
       let row := classRow x.fanClass
       let demand := demandOf row t
       let claim := (eightSteps row t (capFor s demand)).2.2
       let finding := s.join.terms.stackLimit < ((heldReports s).map Report.claim).sum + claim ∧
         s.join.terms.stackLimit / presenceCount s < claim
       demand ≠ s.stack.demand →
         (finding → raised .stackCut t = true ∧
           t.stack.backoff = (if s.stack.backoff = 0 then x.number.val + 1 else s.stack.backoff)) ∧
         (¬ finding → t.stack.backoff = s.stack.backoff ∧ raised .stackCut t = raised .stackCut s))

/-- The end of an event composes the plan (R62, R63, R64, R66): afterwards demand, targets, claim, boost curbed and effective
mode are those of the eight steps over the state as it then stands, and the cap is the one held for that demand; a changed
demand brings an evaluation (R83, R85, R87). The fan
class table is R45's. A new target is taken as R71 to R76 say, and after an event both fans hold the targets of the plan: a
fan STALLED at five attempts that takes a target of 0 is FAILED with FAN_FAILED raised (R75, R76), and a FAILED one only
holds the target it is given. -/
def Sys2Proof.Machine.plansAndFans : Prop :=
  (∀ (s : State) (x : Straps), s.join.straps = some x →
     let t := settle s
     let row := classRow x.fanClass
     let flows := eightSteps row t t.stack.cap
     t.stack.demand = flows.1 ∧ t.plan.supply = flows.2.1 ∧ t.plan.extract = flows.2.2 ∧ t.stack.claim = flows.2.2 ∧
     t.plan.effective = effectiveMode t ∧
     (t.plan.curbed = true ↔ (t.mode.boost.isSome = true ∨ t.humid.state = .boost) ∧ flows.2.2 < row.boost) ∧
     (demandOf row t = s.stack.demand → t.stack.backoff = s.stack.backoff ∧ t.stack.cap = s.stack.cap)) ∧
  ownDemandEvaluated ∧
  (∀ s : State, s.join.straps = none → (settle s).plan.supply = 0 ∧ (settle s).plan.extract = 0) ∧
  (classRow 0 = { normal := 60, night := 40, away := 25, boost := 100, k := 16 } ∧
   classRow 1 = { normal := 75, night := 50, away := 30, boost := 125, k := 13 } ∧
   classRow 2 = { normal := 90, night := 60, away := 35, boost := 150, k := 11 } ∧
   classRow 3 = { normal := 110, night := 75, away := 45, boost := 180, k := 9 }) ∧
  (∀ (f : Fan) (flow k : Nat),
     let g : Fan := { f with targetFlow := flow, targetSpeed := flow * k }
     let stop : Fan := { g with state := .stopped, duty := 0, measured := 0, stateTimer := none, stallWindow := none,
                                runTime := 0, loopTimer := none }
     (f.state = .stopped → flow * k = 0 → f.takeTarget flow k = g) ∧
     (f.state = .stopped → flow * k ≠ 0 → f.takeTarget flow k = { g with
       state := .starting, duty := 128, measured := 0, stateTimer := some (seconds 2), stallWindow := none,
       edgeSeen := false, lastEdge := none, runTime := 0, loopTimer := none }) ∧
     (f.state = .starting ∨ f.state = .running → flow * k = 0 → f.takeTarget flow k = stop) ∧
     (f.state = .starting ∨ f.state = .running ∨ f.state = .stalled → flow * k ≠ 0 → f.takeTarget flow k = g) ∧
     (f.state = .stalled → flow * k = 0 → f.attempts < 5 → f.takeTarget flow k = stop) ∧
     (f.state = .stalled → flow * k = 0 → 5 ≤ f.attempts → f.takeTarget flow k = { stop with state := .failed }) ∧
     (f.state = .failed → f.takeTarget flow k = g)) ∧
  (∀ s : State,
     let t := settle s
     (t.supplyFan.takeTarget t.plan.supply (classFactor t) = t.supplyFan ∧
      t.extractFan.takeTarget t.plan.extract (classFactor t) = t.extractFan) ∧
     (told s → s.frost.stage ≠ .preheat → (∀ d : Side, (fanOf s d).state = .stalled → (fanOf s d).attempts < 5) →
       t.supplyFan = s.supplyFan.takeTarget t.plan.supply (classFactor t) ∧
       t.extractFan = s.extractFan.takeTarget t.plan.extract (classFactor t))) ∧
  (∀ (s : State) (d : Side),
     let t := settle s
     let f := fanOf s d
     let flow := match d with
       | .supply => t.plan.supply
       | .extract => t.plan.extract
     (f.state = .stalled → 5 ≤ f.attempts → flow * classFactor t = 0 →
       (fanOf t d).state = .failed ∧ (fanOf t d).duty = 0 ∧ raised .fanFailed t = true) ∧
     (f.state ≠ .failed → (fanOf t d).state = .failed → raised .fanFailed t = true) ∧
     (f.state = .failed → fanOf t d = { f with targetFlow := flow, targetSpeed := flow * classFactor t }))

/-- What the end of an event tells the frost guard and what it asks for (R100, R103, R104, R107). -/
def Sys2Proof.Machine.frostTold : Prop :=
  (∀ s : State,
     settle s = settle (noticeEligibility s) ∧ (told s → settle s = settle (noticeFan s)) ∧
     (told s → noticeEligibility s = s) ∧
     (s.own.eligible = false → eligibleNow s = true → s.frost.stage = .reduce → s.frost.blind = false →
       (s.supplyFan.state = .starting ∨ s.supplyFan.state = .running → noticeEligibility s = { s with
         own := { s.own with eligible := true }
         frost := { s.frost with stage := .preheat, stepTimer := some (seconds 60), clearTimer := none, preheatOn := 0 } }) ∧
       (s.supplyFan.state ≠ .starting → s.supplyFan.state ≠ .running →
         noticeEligibility s = giveUp { s with own := { s.own with eligible := true } })) ∧
     (s.own.eligible = false → eligibleNow s = true → s.frost.stage ≠ .reduce ∨ s.frost.blind = true →
       noticeEligibility s = { s with own := { s.own with eligible := true } }) ∧
     (s.own.eligible = true → eligibleNow s = false → s.frost.stage ≠ .preheat →
       noticeEligibility s = { s with own := { s.own with eligible := false } }) ∧
     (s.frost.stage = .preheat →
       let lost : Frost := { s.frost with
         stage := .reduce, reduction := if s.frost.reduction = 0 then 10 else s.frost.reduction,
         stepTimer := some (seconds 60), clearTimer := none, preheater := false }
       (s.own.eligible = true → eligibleNow s = false →
         (∀ e, ownEntry s = some e → granted s e.station = true →
           noticeEligibility s = giveUp { s with own := { s.own with eligible := false }, frost := lost }) ∧
         ((∀ e, ownEntry s = some e → granted s e.station = false) →
           noticeEligibility s = { s with own := { s.own with eligible := false }, frost := lost })) ∧
       (s.supplyFan.state ≠ .starting → s.supplyFan.state ≠ .running → noticeFan s = giveUp { s with frost := lost }) ∧
       (s.supplyFan.state = .starting ∨ s.supplyFan.state = .running → noticeFan s = s)) ∧
     (s.frost.stage ≠ .preheat → noticeFan s = s) ∧
     ((settle s).frost.stage = .preheat →
       (settle s).supplyFan.state = .starting ∨ (settle s).supplyFan.state = .running)) ∧
  (∀ s : State, wantsTake (settle s) = false ∧
     (told s → s.frost.stage ≠ .preheat →
       (settle s).out.give = s.out.give ∧ (settle s).own.leaving = s.own.leaving ∧
       (wantsTake s = true → (settle s).out.take = true ∧ (settle s).own.outstanding = true) ∧
       (wantsTake s = false → (settle s).out.take = s.out.take ∧ (settle s).own.outstanding = s.own.outstanding)))

/-- Every event ends with the blocks' notices to one another: the eligibility told (R135) and what the frost guard does on it
and on the supply fan (R100, R103, R104), a request for a place when its conditions hold (R107), the preheater on under R110
alone, the indicator at the level of R180, the humidity monitor held IDLE in frost STOP (R147), the plan composed anew by the
eight steps (R63, R64, R66) with the evaluation of a changed demand (R83, R85, R87), and its targets taken by the fans (R71 to R76), the trim period spoiled by a boost, a frost stage
other than CLEAR or a fan not RUNNING (R160), and the minute of a fan not RUNNING no longer qualifying (R154). The line, the
peer table, the join unit, the mode record, the queue copy, the clock, the sensors, the panel port, the nonvolatile record,
the rest of the filter unit and every other pending frame stay as they are, no event flag is cleared, and neither the fans'
attempts nor T_lim, the re-take wait, the thaw timer or BLIND change. The order of the notices is the model's (log 6). -/
def Obligations.EndOfEvent : Prop :=
  (∀ s : State,
    sameBase s (settle s) ∧ told (settle s) ∧ lampRuled (settle s) ∧
    ((settle s).frost.preheater = true ↔
      (settle s).frost.stage = .preheat ∧ (settle s).supplyFan.state = .running ∧ eligibleNow (settle s) = true) ∧
    (∀ g : EventFlag, raised g s = true → raised g (settle s) = true) ∧
    ((settle s).frost.stage = .stop ↔ s.frost.stage = .stop) ∧
    (s.frost.stage ≠ .stop → (settle s).humid = { s.humid with frostStop := false }) ∧
    (s.frost.stage = .stop → (settle s).humid = { s.humid.toIdle with frostStop := true }) ∧
    (settle s).supplyFan.attempts = s.supplyFan.attempts ∧ (settle s).extractFan.attempts = s.extractFan.attempts ∧
    (settle s).frost.tLim = s.frost.tLim ∧ (settle s).frost.reTake = s.frost.reTake ∧
    (settle s).frost.thawTimer = s.frost.thawTimer ∧ (settle s).frost.blind = s.frost.blind ∧
    (told s → s.frost.stage ≠ .preheat → (settle s).frost = { s.frost with preheater := false })) ∧
  plansAndFans ∧ frostTold ∧ marksFollow

/-- Both filter states formed again in the state t from the records of s (R152), and the notice flag of one that thereby
enters DUE, OVERDUE or UNKNOWN raised (R158). -/
def Sys2Proof.Machine.statesFormed (s t : State) : Prop :=
  ∀ d : Side,
    let formed := formedState t (filterOf s d)
    let enters := formed ≠ (filterOf s d).state ∧ (formed = .due ∨ formed = .overdue ∨ formed = .unknown)
    filterOf t d = { filterOf s d with state := formed, notice := (filterOf s d).notice || decide enters } ∧
    ((filterOf s d).notice = false → enters → raised .filterNotice t = true)

/-- The over-limit finding of R85, of the own claim as it stood in s against the records of t. -/
def Sys2Proof.Machine.overLimitIn (s t : State) : Prop :=
  t.join.terms.stackLimit < ((heldReports t).map Report.claim).sum + s.stack.claim ∧
  t.join.terms.stackLimit / presenceCount t < s.stack.claim

/-- The evaluation of the stack share at a change of line condition, from s to t (R84, R85, R87, R89): the over-limit check with
the claim as it stood, and the cap of R82 under the new condition. -/
def Sys2Proof.Machine.evaluatedAtLine (s t : State) : Prop :=
  capFormed t ∧
  ∀ x : Straps, s.join.straps = some x →
    (overLimitIn s t → raised .stackCut t = true ∧
      t.stack.backoff = (if s.stack.backoff = 0 then x.number.val + 1 else s.stack.backoff)) ∧
    (¬ overLimitIn s t → presenceCount t ≤ 16 →
      t.stack.backoff = s.stack.backoff ∧ raised .stackCut t = raised .stackCut s)

/-! ### The terrace line (Chapter 1) -/

/-- The commands that hand the station a valid frame of the given sender (R8). -/
def Sys2Proof.Machine.frameFrom (j : Station) (c : Instr) : Prop :=
  (∃ p, c = .statusTaken j p) ∨ (∃ v, c = .takeTaken j v) ∨ (∃ v, c = .giveTaken j v) ∨ c = .termsQueryTaken j
    ∨ (∃ p, c = .termsSetTaken j p) ∨ (∃ p, c = .testTaken j p)

/-- A state in which the receiver forms no frame (R7, R42): no valid frame is taken, of any sender, and none breaks. -/
def Sys2Proof.Machine.noFrameFormed (s : State) : Prop :=
  (∀ (j : Station) (c : Instr), frameFrom j c → exec c s = .next s) ∧
  (∀ chars : List CharLevels, exec (.receiveError chars) s = .next s)

/-- An idle line starts the slots at slot 0 and readies the receiver, and ends STUCK in DOUBT with E at the threshold; a change to
dominant stops the slots; 64 bit times of dominant take CLEAR or DOUBT to STUCK with every pending frame withdrawn and a test
run whose TEST was pending cut short, while MUTED stays (R4, R7, R9, R17, R20, R23). While the line is held the receiver is not
ready: no frame is taken and none breaks (R7, R20, R42). Each change of condition evaluates the stack share (R87,
R89). What a restart that waits for its GIVE does then is said in RestartRule. The events arrive as commands: no bit time is counted (log 5), and an idle sent within an idle or while the own
frame is being sent begins a new one: the model's choice (log 42). -/
def Obligations.LineLevels : Prop :=
  ∀ (s : State) (b : Bool), s.power = .running → s.line.receiverOn = true →
    (s.line.condition ≠ .stuck →
      exec .lineIdle s = .next { s with line := { s.line with idle := true, receiverReady := true, slotTime := some 0 } }) ∧
    (s.line.condition = .stuck → ∃ t, exec .lineIdle s = .next t ∧ t.line.condition = .doubt ∧
      t.line.errors = s.join.terms.errorThreshold ∧ t.line.idle = true ∧ t.line.receiverReady = true ∧
      t.line.slotTime = some 0 ∧ raised .lineDoubt t = true ∧ evaluatedAtLine s t ∧ t.queue = s.queue ∧
      t.peers = s.peers ∧ t.clock = s.clock) ∧
    exec (.lineBusy b) s = .next { s with line := { s.line with idle := false, slotTime := none } } ∧
    (s.line.condition = .clear ∨ s.line.condition = .doubt → s.panel.restartWait = none →
      ∃ t, exec .lineStuck s = .next t ∧ t.line.condition = .stuck ∧ t.line.errors = s.line.errors ∧
        t.line.idle = false ∧ t.line.slotTime = none ∧ raised .lineStuck t = true ∧ t.out = Outgoing.empty ∧
        t.line.run = (if s.out.test then none else s.line.run) ∧ t.line.receiverReady = false ∧ noFrameFormed t ∧
        evaluatedAtLine s t ∧
        t.queue = s.queue ∧ t.peers = s.peers ∧ t.clock = s.clock) ∧
    (s.line.condition = .muted ∨ s.line.condition = .stuck →
      exec .lineStuck s =
        .next { s with line := { s.line with receiverReady := false, idle := false, slotTime := none } }) ∧
    (s.line.receiverReady = false → noFrameFormed s)

/-- What a STATUS built in a state reports, field by field (R27 to R32). -/
def Sys2Proof.Machine.reportsItself (s : State) : Prop :=
  let r := currentReport s
  r.mode = s.plan.effective ∧ r.stage = s.frost.stage ∧ r.reduction10 = s.frost.reduction / 10 ∧
  r.claim = s.plan.extract ∧ (r.lineNotClear = true ↔ s.line.condition = .doubt) ∧
  (r.backoff = true ↔ 0 < s.stack.backoff) ∧ r.curbed = s.plan.curbed ∧
  (r.filterDue = true ↔ ∃ d : Side, (filterOf s d).state = .due ∨ (filterOf s d).state = .overdue ∨
    (filterOf s d).state = .unknown) ∧
  r.skew = s.join.skew ∧ r.copyState = s.queue.state ∧ r.n = s.queue.n ∧
  (r.entryPresent = true ↔ ∃ e ∈ s.queue.entries, ownNumber s = some e.station) ∧
  (∀ e own, ownNumber s = some own → entryOf s.queue own = some e →
    r.entrySerial = e.serial ∧ r.entryGranted = granted s own) ∧
  (r.entryPresent = false → r.entrySerial = 0 ∧ r.entryGranted = false) ∧
  r.filterLife = min 255 (max (filterLife s.join.terms s.filters.supply) (filterLife s.join.terms s.filters.extract)) ∧
  r.termsVersion = s.join.terms.version ∧ r.time = s.clock.time

/-- The slot count runs in elapsed time, 75 bit times to a tick, slots of 2 bit times from 0 to 63 and again from 0 (R9); when
the station's own slot comes within the tick and its frame is built, the frame begins (R11). -/
def Sys2Proof.Machine.slotsRun : Prop :=
  (∀ (s : State) (own : Station) (w : Wanted) (t : Nat), ownNumber s = some own → nextWanted s = some w → s.line.idle = true →
     s.line.sending = none → s.line.slotTime = some t → t < 128 →
     ∃ d, bitsToSlot s = some d ∧ d < 128 ∧ (t + d) % 128 = 2 * slotOf own s.line.lastSender w.sendingClass) ∧
  (∀ s : State, s.line.slotTime = none ∨ nextWanted s = none → bitsToSlot s = none) ∧
  (∀ s : State, (∀ d, bitsToSlot s = some d → 75 ≤ d) → runLine s = { s with
     line := { s.line with slotTime := s.line.slotTime.map (fun t => (t + 75) % 128) } }) ∧
  (∀ (s : State) (d : Nat) (w : Wanted) (c : Content), s.power = .running → bitsToSlot s = some d → d < 75 →
     nextWanted s = some w → buildContent s w = some c → exec .slotBegins s = .next (runLine s)) ∧
  (∀ s : State, slotCount s = s.line.slotTime.map (· / 2))

/-- A station's slot is its class times 16 plus its distance from the last sender, own number − last sender − 1 modulo 16
(R11); after a start, with last sender 15, that distance is its number (R10). The frame of the lowest pending class that may
be sent begins at its slot, with the content its owner gives at that moment, in CLEAR, in DOUBT all but TAKE and TEST, in
LISTEN the query alone (R21); the line interface adds header, length and check byte, and nothing else changes but that the
frame is no longer pending and the line is busy (R5, R11, R12, R16, R189). A GIVE carries the leaving serial, or else the own
entry's; a frame that its owner declines is withdrawn, with a GIVE any pending TAKE, and the slots go on (R12, R133, R134). A
STATUS reports the station as it stands (R27 to R32). The slots run in idle steps (R9); SLOT_BEGINS as a command is the
station's own slot whenever it comes, and its frame makes the line busy until the next idle: the model's choice (log 5) and
reading (log 13). A frame pending in the very bit time in which its slot begins takes that slot: the model's choice
(log 41). -/
def Obligations.SlotAndItsFrame : Prop :=
  ((∀ (own last : Station) (c : Nat),
     (slotOf own last c : Int) = c * 16 + ((own.val : Int) - (last.val : Int) - 1) % 16) ∧
   (∀ (own : Station) (c : Nat), slotOf own 15 c = c * 16 + own.val) ∧
   (∀ (s : State) (own : Station) (w : Wanted), ownNumber s = some own → nextWanted s = some w →
     ownSlot s = some (slotOf own s.line.lastSender w.sendingClass))) ∧
  (∀ (s : State) (own : Station), s.power = .running → ownNumber s = some own → s.line.idle = true →
     s.line.sending = none →
     let sent (c : Content) (out : Outgoing) : Result := .next { s with
       out := out
       line := { s.line with idle := false, slotTime := none,
                             sending := some { content := c, bytes := frameBytes own c, counted := true } } }
     let declined (c : Nat) (out : Outgoing) (outstanding : Bool) : Result := .next (settle { s with
       out := out, own := { s.own with outstanding := outstanding }
       line := { s.line with slotTime := some (2 * slotOf own s.line.lastSender c) } })
     (s.join.membership = .joined → s.line.condition = .clear ∨ s.line.condition = .doubt →
       (∀ v, s.out.give = true → s.own.leaving = some v → exec .slotBegins s = sent (.give v) { s.out with give := false }) ∧
       (∀ e, s.out.give = true → s.own.leaving = none → ownEntry s = some e →
         exec .slotBegins s = sent (.give e.serial) { s.out with give := false }) ∧
       (s.out.give = true → s.own.leaving = none → ownEntry s = none →
         exec .slotBegins s = declined 0 { s.out with give := false, take := false } (s.own.outstanding && !s.out.take)) ∧
       (s.out.give = false → s.out.take = false ∨ s.line.condition = .doubt → s.out.status = true →
         exec .slotBegins s = sent (.status (currentReport s)) { s.out with status := false }) ∧
       (s.out.give = false → s.out.take = false ∨ s.line.condition = .doubt → s.out.status = false →
         s.out.terms = some .set → exec .slotBegins s = sent (.termsSet s.join.terms) { s.out with terms := none })) ∧
     (s.join.membership = .joined → s.line.condition = .clear →
       (s.out.give = false → s.out.take = true → ownEntry s = none → s.queue.state ≠ .rebuild →
         exec .slotBegins s = sent (.take s.queue.n) { s.out with take := false }) ∧
       (s.out.give = false → s.out.take = true → (ownEntry s).isSome = true ∨ s.queue.state = .rebuild →
         exec .slotBegins s = declined 1 { s.out with take := false } false) ∧
       (∀ r, s.out.give = false → s.out.take = false → s.out.status = false → s.out.terms = none → s.out.test = true →
         s.line.run = some r → exec .slotBegins s = sent (.test r.seed) { s.out with test := false })) ∧
     (s.join.membership = .joined → s.line.condition = .doubt → s.out.give = false → s.out.status = false →
       s.out.terms = none → exec .slotBegins s = .next s) ∧
     (s.join.membership = .listen → s.line.condition = .clear ∨ s.line.condition = .doubt →
       (s.out.terms = some .query → exec .slotBegins s = sent .termsQuery { s.out with terms := none }) ∧
       (s.out.terms ≠ some .query → exec .slotBegins s = .next s))) ∧
  (∀ s : State, reportsItself s) ∧ slotsRun

/-- A frame that loses the line is pending again, a newer pending frame of its kind standing for both, the driver is released
and the collision counter rises, to 255 at most; a TERMS query lost after the end of LISTEN is withdrawn (R13, R16, R47). -/
def Obligations.LostLineKeepsTheFrame : Prop :=
  ∀ (s : State) (f : Sending), s.power = .running → s.line.sending = some f →
    let released : Line := { s.line with sending := none, collisions := min 255 (s.line.collisions + 1) }
    (∀ v, f.content = .give v →
      exec .lostTheLine s = .next { s with line := released, out := { s.out with give := true } }) ∧
    (∀ v, f.content = .take v →
      exec .lostTheLine s = .next { s with line := released, out := { s.out with take := true } }) ∧
    (∀ r, f.content = .status r →
      exec .lostTheLine s = .next { s with line := released, out := { s.out with status := true } }) ∧
    (∀ x, f.content = .test x →
      exec .lostTheLine s = .next { s with line := released, out := { s.out with test := true } }) ∧
    (∀ x, f.content = .termsSet x → s.out.terms = none →
      exec .lostTheLine s = .next { s with line := released, out := { s.out with terms := some .set } }) ∧
    (∀ x k, f.content = .termsSet x → s.out.terms = some k → exec .lostTheLine s = .next { s with line := released }) ∧
    (f.content = .termsQuery → s.join.membership = .listen → s.out.terms = none →
      exec .lostTheLine s = .next { s with line := released, out := { s.out with terms := some .query } }) ∧
    (f.content = .termsQuery → s.join.membership = .joined → exec .lostTheLine s = .next { s with line := released })

/-- A driver that fails to hold the line stops the frame and mutes the station with the cause driver fault; a valid frame of
any kind under the station's own number that it did not send is not delivered and mutes it with the cause duplicate. Every
pending frame is withdrawn, with a TAKE own TAKE outstanding cleared, with a GIVE the leaving serial, and with a TEST, pending
or stopped, the test run cut short; MUTED is raised, and the collision counter does not change. A second cause leaves the
recorded one (R8, R15, R17, R22, R23, R136). The change to MUTED evaluates the stack share (R87, R89). -/
def Obligations.MutedByFaultOrDuplicate : Prop :=
  (∀ (s : State) (f : Sending), s.power = .running → s.line.sending = some f → s.panel.restartWait = none →
    ∃ t, exec .driverFault s = .next t ∧ t.line.condition = .muted ∧ t.line.sending = none ∧
      t.line.cause = (if s.line.condition = .muted then s.line.cause else .driverFault) ∧
      t.line.collisions = s.line.collisions ∧ t.line.errors = s.line.errors ∧
      t.out = Outgoing.empty ∧
      ((∃ x, f.content = .test x) ∨ s.out.test = true → t.line.run = none) ∧
      ((∀ x, f.content ≠ .test x) → s.out.test = false → t.line.run = s.line.run) ∧
      (s.line.condition ≠ .muted → raised .muted t = true ∧ evaluatedAtLine s t) ∧
      ((∃ v, f.content = .give v) ∨ s.out.give = true → t.own.leaving = none) ∧
      ((∃ v, f.content = .take v) ∨ s.out.take = true → t.own.outstanding = false) ∧
      t.queue = s.queue ∧ t.peers = s.peers ∧ t.clock = s.clock) ∧
  (∀ (s : State) (own : Station) (c : Instr), s.power = .running → canReceive s = true → ownNumber s = some own →
    s.panel.restartWait = none → frameFrom own c →
    ∃ t, exec c s = .next t ∧ t.line.condition = .muted ∧
      t.line.cause = (if s.line.condition = .muted then s.line.cause else .duplicate) ∧
      t.line.errors = s.line.errors - 1 ∧ t.line.lastSender = own ∧ t.line.collisions = s.line.collisions ∧
      t.line.tally = s.line.tally ∧ t.line.run = (if s.out.test then none else s.line.run) ∧
      t.out = Outgoing.empty ∧ (s.line.condition ≠ .muted → raised .muted t = true ∧ evaluatedAtLine s t) ∧
      (s.out.give = true → t.own.leaving = none) ∧ (s.out.take = true → t.own.outstanding = false) ∧
      t.queue = s.queue ∧ t.peers = s.peers ∧ t.clock = s.clock ∧ t.join = s.join)

/-- The station's own frame, sent to completion, is taken like a peer's of the same content (R14): STATUS fills the own report
copy (R33), a query sets query sent (R49), a TERMS set moves nothing else, a TEST counts in the tally and the run (R23, R24),
and none of them stays being sent. It lowers E by one, to 0 at least, ends DOUBT when E is back at 0, and makes the
station the last sender (R10, R19, R20), with an evaluation of the stack share where DOUBT ends (R87, R89). The own GIVE clears
the leaving serial and starts the re-take wait (R109, R123). The own TAKE clears own TAKE outstanding (R133) and enters the copy:
in SYNCED and UNSURE as a current one, for it was built from N, UNSURE when it replaces an entry (R121); in REBUILD without a
window check (R119). Entries that the move of N ages out leave (R131), by the model's reading of their distance (log 23). -/
def Obligations.OwnFrameCompletes : Prop :=
  ∀ (s : State) (own : Station) (f : Sending), s.power = .running → ownNumber s = some own → s.line.sending = some f →
    (s.panel.restartWait = none → ∃ t, exec .ownFrameComplete s = .next t ∧ t.line.sending = none ∧
      t.line.errors = s.line.errors - 1 ∧ t.line.lastSender = own ∧ t.line.collisions = s.line.collisions ∧
      t.line.condition = (if s.line.condition = .doubt ∧ s.line.errors ≤ 1 then .clear else s.line.condition) ∧
      (s.line.condition = .doubt → s.line.errors ≤ 1 → evaluatedAtLine s t)) ∧
    (∀ r, f.content = .status r → ∃ t, exec .ownFrameComplete s = .next t ∧ t.line.sending = none ∧
      t.peers = { s.peers with ownReport := some r } ∧ t.queue = s.queue ∧ t.clock = s.clock ∧ t.line.tally = s.line.tally) ∧
    (f.content = .termsQuery → ∃ t, exec .ownFrameComplete s = .next t ∧ t.line.sending = none ∧
      t.join = { s.join with querySent := true } ∧ t.peers = s.peers ∧ t.queue = s.queue) ∧
    (∀ x, f.content = .termsSet x → ∃ t, exec .ownFrameComplete s = .next t ∧ t.line.sending = none ∧
      t.join = s.join ∧ t.peers = s.peers ∧ t.queue = s.queue) ∧
    (∀ x, f.content = .test x → ∃ t, exec .ownFrameComplete s = .next t ∧ t.line.sending = none ∧
      t.line.tally = s.line.tally.take own (testPattern x) ∧
      (∀ r, s.line.run = some r → f.counted = true → r.remaining ≤ 1 → t.line.run = none) ∧
      (∀ r, s.line.run = some r → f.counted = true → 1 < r.remaining → s.join.membership = .joined →
        s.line.condition = .clear →
        t.line.run = some { r with remaining := r.remaining - 1 } ∧ t.out.test = true) ∧
      (f.counted = false → t.line.run = s.line.run) ∧ t.peers = s.peers ∧ t.queue = s.queue) ∧
    (∀ v, f.content = .give v → s.panel.restartWait = none → ∃ t, exec .ownFrameComplete s = .next t ∧
      t.line.sending = none ∧ t.queue = s.queue.give own v ∧ t.own.leaving = none ∧ t.frost.reTake = some (seconds 120) ∧ t.peers = s.peers) ∧
    (f.content = .take s.queue.n → s.queue.state ≠ .rebuild →
      ∃ t, exec .ownFrameComplete s = .next t ∧ t.line.sending = none ∧ t.queue.n = s.queue.n + 1 ∧
        (entryOf s.queue own = none → t.queue.state = s.queue.state ∧ t.queue.confirm = s.queue.confirm) ∧
        ((entryOf s.queue own).isSome = true → t.queue.state = .unsure ∧ t.queue.confirm = 2) ∧
        (queueRuled s → ∀ k ≠ own, entryOf t.queue k = (entryOf s.queue k).filter (fun e =>
          decide (serialDistance s.queue.n e.serial + 1 < 240))) ∧
        t.queue.stale = s.queue.stale ∧ t.queue.late = s.queue.late ∧ t.own.outstanding = false ∧
        entryOf t.queue own = some { station := own, serial := s.queue.n, shadow := none, hold := 0 } ∧ t.peers = s.peers) ∧
    (∀ v, f.content = .take v → s.queue.state = .rebuild →
      ∃ t, exec .ownFrameComplete s = .next t ∧ t.line.sending = none ∧ t.own.outstanding = false ∧
        t.queue = { s.queue with
          entries := withoutStation own s.queue.entries ++ [{ station := own, serial := v, shadow := none, hold := 0 }]
          n := if s.queue.nSet = false ∨ serialDistance v s.queue.n ≤ 126 then v + 1 else s.queue.n
          nSet := true } ∧ t.peers = s.peers)

/-- The check byte is the register that starts at 0xFF, takes each byte by exclusive-OR and is shifted eight times with 0x1D
combined at each 1 shifted out; a sender places it over header, length and payload; a receiver that finds another check byte
on a frame of an accepted kind and length finds a check mismatch, and one that finds the same finds no error (R5, R6, R7). -/
def Obligations.CheckByteRule : Prop :=
  (checkByte [] = 0xFF#8) ∧
  (∀ (bytes : List Byte) (b : Byte), checkByte (bytes ++ [b]) =
    (fun c : Byte => if c.getLsbD 7 then (c <<< 1) ^^^ 0x1D#8 else c <<< 1)^[8] (checkByte bytes ^^^ b)) ∧
  (∀ (own : Station) (c : Content), frameBytes own c =
    headerByte c.kind own :: byteOf c.payload.length :: c.payload ++
      [checkByte (headerByte c.kind own :: byteOf c.payload.length :: c.payload)]) ∧
  (∀ (header length check : Byte) (payload : List Byte) (lengths : List Nat),
    kindLengths (header.toNat / 16) = some lengths → length.toNat ∈ lengths → payload.length = length.toNat →
    receiveFault ((header :: length :: payload ++ [check]).map (fun b => { byte := b, stopGood := true })) =
      if checkByte (header :: length :: payload) = check then none else some .checkMismatch) ∧
  (∀ (own : Station) (c : Content),
    receiveFault ((frameBytes own c).map (fun b => { byte := b, stopGood := true })) = none)

/-- R10: the last-sender position follows the valid frames of peers and the own frames that complete; broken frames,
changes of the line, frames lost and frames stopped by a driver fault leave it; after power-on and after a restart it is 15, so that station 0's slot comes
first. -/
def Obligations.LastSenderRule : Prop :=
  (∀ (s : State) (j : Station) (c : Instr), s.power = .running → canReceive s = true → ownNumber s ≠ some j →
    frameFrom j c → ∃ t, exec c s = .next t ∧ t.line.lastSender = j) ∧
  (∀ (s : State) (own : Station) (f : Sending), s.power = .running → ownNumber s = some own → s.line.sending = some f →
    s.panel.restartWait = none → ∃ t, exec .ownFrameComplete s = .next t ∧ t.line.lastSender = own) ∧
  (∀ (s : State) (chars : List CharLevels) (b : Bool) (c : Instr), s.power = .running →
    c = .receiveError chars ∨ c = .lineBusy b ∨ c = .lineIdle ∨ c = .lostTheLine ∨
      ((c = .lineStuck ∨ c = .driverFault) ∧ s.panel.restartWait = none) →
    ∃ t, exec c s = .next t ∧ t.line.lastSender = s.line.lastSender) ∧
  (∀ s : State, (∃ t, exec .powerOn s = .next t ∧ t.line.lastSender = 15) ∧ (restartNow s).line.lastSender = 15) ∧
  (∀ (own : Station) (c : Nat), slotOf 0 15 c ≤ slotOf own 15 c)

/-! ### Frames taken from peers -/

/-- The receive errors but the check mismatch, each where R7 detects it, and the payload lengths of R5. -/
def Sys2Proof.Machine.faultsDetected : Prop :=
  (receiveFault [] = none) ∧
  (∀ (header : RxChar) (rest : List RxChar), header.stopGood = false → receiveFault (header :: rest) = some .badStop) ∧
  (∀ (header : RxChar) (rest : List RxChar), header.stopGood = true → kindLengths (header.byte.toNat / 16) = none →
     receiveFault (header :: rest) = some .unknownKind) ∧
  (∀ (header : RxChar) (lengths : List Nat), header.stopGood = true →
     kindLengths (header.byte.toNat / 16) = some lengths → receiveFault [header] = some .fragment ∧
     (∀ (length : RxChar) (body : List RxChar),
       (length.stopGood = false → receiveFault (header :: length :: body) = some .badStop) ∧
       (length.stopGood = true → length.byte.toNat ∉ lengths →
         receiveFault (header :: length :: body) = some .badLength) ∧
       (length.stopGood = true → length.byte.toNat ∈ lengths →
         ((∃ c ∈ body.take (length.byte.toNat + 1), c.stopGood = false) →
           receiveFault (header :: length :: body) = some .badStop) ∧
         ((∀ c ∈ body, c.stopGood = true) → body.length ≤ length.byte.toNat →
           receiveFault (header :: length :: body) = some .fragment)))) ∧
  (kindLengths 1 = some [1] ∧ kindLengths 2 = some [1] ∧ kindLengths 3 = some [12] ∧ kindLengths 4 = some [0, 15] ∧
   kindLengths 5 = some [16] ∧ kindLengths 0 = none ∧ ∀ code, 5 < code → kindLengths code = none)

/-- Every valid frame from a peer lowers E by one, to 0 at least, and ends DOUBT when E is back at 0 (R8, R19, R20).
A broken frame raises E by one, to 31 at most, and leaves the receiver not ready until the next idle; when E reaches the
threshold in CLEAR the condition becomes DOUBT, LINE_DOUBT is raised, and the pending TAKE and TEST are withdrawn, with the
TEST the test run cut short (R7, R17, R19, R20, R23). A change between CLEAR and DOUBT evaluates the stack share, so that its cap
is that of R82 under the new condition (R87, R89). The frame is broken by the first of a bad stop bit, an unknown kind, a bad length and a frame left short, each
where it is detected (R5, R7; the frame left short stands for the gap, log 27), or by the check mismatch of CheckByteRule; characters that break no frame change nothing, which
is the model's choice (log 2). -/
def Obligations.ErrorCountFollowsFrames : Prop :=
  (∀ (s : State) (j : Station) (c : Instr), s.power = .running → canReceive s = true → ownNumber s ≠ some j →
     frameFrom j c → ∃ t, exec c s = .next t ∧ t.line.errors = s.line.errors - 1 ∧
       t.line.condition = (if s.line.condition = .doubt ∧ s.line.errors ≤ 1 then .clear else s.line.condition) ∧
       (s.line.condition = .doubt → s.line.errors ≤ 1 → capFormed t) ∧
       t.line.collisions = s.line.collisions ∧ t.line.cause = s.line.cause ∧ t.power = s.power ∧ t.nv = s.nv ∧
       t.sensors = s.sensors ∧ t.panel = s.panel ∧ t.pending = s.pending) ∧
  (∀ (s : State) (chars : List CharLevels), s.power = .running → canReceive s = true →
     (receiveFault (receiveChars chars)).isSome = true →
     ∃ t, exec (.receiveError chars) s = .next t ∧ t.line.errors = min 31 (s.line.errors + 1) ∧
       t.line.receiverReady = false ∧ t.line.lastSender = s.line.lastSender ∧ t.line.tally = s.line.tally ∧
       (s.line.condition = .clear → s.join.terms.errorThreshold ≤ min 31 (s.line.errors + 1) →
         t.line.condition = .doubt ∧ raised .lineDoubt t = true ∧ t.out.take = false ∧ t.out.test = false ∧
         t.line.run = (if s.out.test then none else s.line.run) ∧ evaluatedAtLine s t) ∧
       (s.line.condition ≠ .clear ∨ min 31 (s.line.errors + 1) < s.join.terms.errorThreshold →
         t.line.condition = s.line.condition ∧ t.line.run = s.line.run) ∧
       t.peers = s.peers ∧ t.queue = s.queue ∧ t.clock = s.clock ∧ t.join = s.join) ∧
  (∀ (s : State) (chars : List CharLevels), s.power = .running → receiveFault (receiveChars chars) = none →
     exec (.receiveError chars) s = .next s) ∧
  faultsDetected

/-- What a usable STATUS brings in the blocks that take it after its record (R55, R84, R85, R87, R152, R157, R158, R164). -/
def Sys2Proof.Machine.statusConsumed : Prop :=
  ∀ (s : State) (j : Station) (p : StatusBytes) (r : Report), s.power = .running → canReceive s = true →
    ownNumber s ≠ some j → decodeStatus p = some r →
    ∃ t, exec (.statusTaken j p) s = .next t ∧
      (s.join.membership = .joined → t.join = { s.join with skew := skewNow t }) ∧
      (s.join.membership ≠ .joined → t.join = s.join) ∧
      (s.join.membership = .joined → s.join.skew = false → skewNow t = true → raised .termsSkew t = true) ∧
      t.stack.cap = capFor t t.stack.demand ∧
      (∀ x, s.join.straps = some x → s.line.condition ≠ .doubt ∨ 1 < s.line.errors →
        (overLimitIn s t → raised .stackCut t = true ∧
          t.stack.backoff = (if s.stack.backoff = 0 then x.number.val + 1 else s.stack.backoff)) ∧
        (¬ overLimitIn s t → t.join.skew = s.join.skew → demandOf (classRow x.fanClass) s = s.stack.demand →
          t.stack.demand = s.stack.demand → t.stack.backoff = s.stack.backoff)) ∧
      (s.filters.restored = true → statesFormed s t) ∧
      (s.filters.restored = false → ∀ d : Side, filterOf t d = filterOf s d)

/-- A usable STATUS from a peer makes its record PRESENT with age 0 and the report's fields; an unusable one raises the count
of unusable reports, to 255 at most, and moves no record (R35, R36). The
time source is formed again: the lowest station held that is lower than the own number, if there is one (R167). A usable
STATUS makes a stack share evaluation, the over-limit check and then the cap (R84, R85, R87), in JOINED a skew evaluation with
TERMS_SKEW when skew is raised (R55), and once the restore has been made it forms the filter states, group due among them
(R152, R157, R158, R164). The order in which the blocks take it is the model's (log 33). What it does to the clock, and the
minute evaluation of a step, are said in SourceReportMovesTheClock. -/
def Obligations.StatusUpdatesTheRecord : Prop :=
  (∀ (s : State) (j : Station) (p : StatusBytes), s.power = .running → canReceive s = true → ownNumber s ≠ some j →
    (∀ r, decodeStatus p = some r → ∃ t, exec (.statusTaken j p) s = .next t ∧
      t.peers = { s.peers with records := s.peers.records.set j { presence := .present, age := 0, fields := some r } } ∧
      t.queue = s.queue.report s.join.terms j r ∧ t.clock.source = sourceNow t ∧ t.frost.tLim = s.frost.tLim ∧
      t.line.tally = s.line.tally) ∧
    (decodeStatus p = none → ∃ t, exec (.statusTaken j p) s = .next t ∧
      t.peers = { s.peers with unusable := min 255 (s.peers.unusable + 1) } ∧ t.queue = s.queue ∧ t.clock = s.clock ∧
      t.mode = s.mode ∧ t.join = s.join)) ∧
  (∀ (s : State) (own : Station), ownNumber s = some own →
    (∀ k : Station, sourceNow s = some k ↔
      k < own ∧ (s.peers.records.get k).presence ≠ .absent ∧ ∀ i < k, (s.peers.records.get i).presence = .absent) ∧
    (sourceNow s = none ↔ ∀ i < own, (s.peers.records.get i).presence = .absent)) ∧
  (∀ s : State, ownNumber s = none → sourceNow s = none) ∧ statusConsumed

/-- What a report's N does in SYNCED and UNSURE (R125, R131); the distance that ages an entry is counted through every serial N
passes: the model's reading (log 23). -/
def Sys2Proof.Machine.reportedN (q : Queue) (x : Terms) (r : Report) : Prop :=
  let d := serialDistance r.n q.n
  (r.copyState ≠ .synced → q.reportN x r = q) ∧
  (r.copyState = .synced → d = 0 ∨ 128 ≤ d → q.reportN x r = q) ∧
  (r.copyState = .synced → 1 ≤ d → d ≤ 127 → x.ahead < d → q.reportN x r = { q with state := .unsure, confirm := 2 }) ∧
  (r.copyState = .synced → 1 ≤ d → d ≤ 127 → d ≤ x.ahead → q.reportN x r = { q with
    n := r.n, nSet := true, state := .unsure, confirm := 2
    entries := q.entries.filter (fun e => decide (serialDistance q.n e.serial + d < 240)) })

/-- What a report does in REBUILD (R119): its N first, unless its sender is in REBUILD, then its own entry. -/
def Sys2Proof.Machine.reportRebuilds (q : Queue) (x : Terms) (j : Station) (r : Report) : Prop :=
  let used := r.copyState ≠ .rebuild
  let v := if used ∧ (q.nSet = false ∨ (1 ≤ serialDistance r.n q.n ∧ serialDistance r.n q.n ≤ 127)) then r.n else q.n
  let set := q.nSet = true ∨ used
  (r.entryPresent = false →
    (q.report x j r).n = v ∧ (q.report x j r).entries = q.entries.filter (fun e => decide (e.station ≠ j))) ∧
  (r.entryPresent = true →
    (q.report x j r).n = (if ¬ set ∨ serialDistance r.entrySerial v ≤ 126 then r.entrySerial + 1 else v) ∧
    (q.report x j r).nSet = true ∧
    (entryOf q j = none → (q.report x j r).entries =
      q.entries ++ [{ station := j, serial := r.entrySerial, shadow := none, hold := 0 }]) ∧
    ((entryOf q j).isSome = true → (q.report x j r).entries =
      q.entries.map (fun e => if e.station = j then { e with serial := r.entrySerial } else e))) ∧
  (q.report x j r).state = .rebuild ∧ (q.report x j r).rebuild = q.rebuild ∧ (q.report x j r).confirm = q.confirm ∧
  (q.report x j r).stale = q.stale ∧ (q.report x j r).late = q.late

/-- In SYNCED and UNSURE a round report's N is applied first, if its sender is SYNCED: one to PW ahead it becomes N, the copy
UNSURE and entries that come to 240 serials back gone, counted through every serial N passes, which is the model's reading
(log 23); farther ahead it makes the copy UNSURE alone (R125, R131). Then the report corrects the copy about its sender's own
entry (R124): absent, the entry goes; present, the entry stands with the reported serial, NORMAL, its hold kept where it had
one, also where its own move of N ages the old entry out, which is the model's choice (log 38); an entry that would stand 240
or more back is not made and any the sender had goes; any change makes the copy UNSURE with countdown 2. The entries of the
other stations stay, but for those that a move of N ages out (R131; log 23). In REBUILD the report's N, unless its sender is
in REBUILD, raises N, and its own entry is taken without a window (R119). -/
def Obligations.ReportCorrectsTheCopy : Prop :=
  (∀ (q : Queue) (x : Terms) (r : Report), reportedN q x r) ∧
  (∀ (q : Queue) (x : Terms) (j : Station) (r : Report), q.state = .rebuild → reportRebuilds q x j r) ∧
  (∀ (q : Queue) (x : Terms) (j : Station) (r : Report), q.state ≠ .rebuild →
    let p := q.reportN x r
    let near := serialDistance r.entrySerial p.n ≤ x.ahead ∨ serialDistance p.n r.entrySerial < 240
    let moves := r.entryPresent = true ∧ (∀ e, entryOf p j = some e → e.serial ≠ r.entrySerial) ∧
      serialDistance r.entrySerial p.n ≤ x.ahead
    ((q.entries.map Entry.station).Nodup → ∀ k ≠ j,
      (moves → entryOf (q.report x j r) k = (entryOf p k).filter (fun e =>
        decide (serialDistance p.n e.serial + serialDistance (r.entrySerial + 1) p.n < 240))) ∧
      (¬ moves → entryOf (q.report x j r) k = entryOf p k)) ∧
    (r.entryPresent = false → entryOf (q.report x j r) j = none ∧
      ((entryOf p j).isSome = true → (q.report x j r).state = .unsure ∧ (q.report x j r).confirm = 2) ∧
      (entryOf p j = none → q.report x j r = p)) ∧
    (r.entryPresent = true →
      (entryOf p j = none → near →
        entryOf (q.report x j r) j = some { station := j, serial := r.entrySerial, shadow := none, hold := 0 } ∧
        (q.report x j r).state = .unsure ∧ (q.report x j r).confirm = 2) ∧
      (∀ e, entryOf p j = some e → e.serial = r.entrySerial →
        entryOf (q.report x j r) j = some { e with shadow := none } ∧ (q.report x j r).state = p.state ∧
        (q.report x j r).n = p.n) ∧
      (∀ e, entryOf p j = some e → e.serial ≠ r.entrySerial → near →
        entryOf (q.report x j r) j = some { e with serial := r.entrySerial, shadow := none } ∧
        (q.report x j r).state = .unsure ∧ (q.report x j r).confirm = 2) ∧
      ((∀ e, entryOf p j = some e → e.serial ≠ r.entrySerial) →
        (serialDistance r.entrySerial p.n ≤ x.ahead → (q.report x j r).n = r.entrySerial + 1) ∧
        (¬ near → q.report x j r = { p with
          entries := p.entries.filter (fun e => decide (e.station ≠ j)), state := .unsure, confirm := 2 }))))

/-- A TAKE in SYNCED and UNSURE is judged by its distance from N: current and ahead it enters with N moved past it, ahead
making the copy UNSURE; the entries of the other stations stay, but for those that the move of N ages out, counted through
every serial it passes, which is the model's reading (R131, log 23); stale it only counts; far it locks the copy out into
REBUILD (R121, R122). A GIVE from a peer removes its entry, UNSURE when the serial differs, and counts as late when there is
none; in REBUILD it removes the entry whatever its serial, and a TAKE in REBUILD enters without a window check and raises N
past itself, when N is unset or the raised N is newer (R119, R123). -/
def Obligations.TakeAndGiveInTheCopy : Prop :=
  (∀ (s : State) (j : Station) (v : Byte), s.power = .running → canReceive s = true → ownNumber s ≠ some j →
     s.queue.state ≠ .rebuild → s.join.terms.usable = true →
     let d := serialDistance v s.queue.n
     ∃ t, exec (.takeTaken j v) s = .next t ∧ t.peers = s.peers ∧ t.clock = s.clock ∧
       (d ≤ s.join.terms.ahead →
         entryOf t.queue j = some { station := j, serial := v, shadow := none, hold := 0 } ∧ t.queue.n = v + 1 ∧
         (1 ≤ d ∨ (entryOf s.queue j).isSome = true → t.queue.state = .unsure ∧ t.queue.confirm = 2) ∧
         (d = 0 → entryOf s.queue j = none → t.queue.state = s.queue.state) ∧
         (queueRuled s → ∀ k ≠ j, entryOf t.queue k = (entryOf s.queue k).filter (fun e =>
           decide (serialDistance s.queue.n e.serial + serialDistance (v + 1) s.queue.n < 240))) ∧
         t.queue.stale = s.queue.stale ∧ t.queue.late = s.queue.late) ∧
       (256 - s.join.terms.behind ≤ d → t.queue = { s.queue with stale := min 255 (s.queue.stale + 1) }) ∧
       (s.join.terms.ahead < d → d < 256 - s.join.terms.behind →
         t.queue = { s.queue with entries := [], n := 0, nSet := false, state := .rebuild, rebuild := 2, confirm := 0 } ∧
         raised .queueLockout t = true)) ∧
  (∀ (s : State) (j : Station) (v : Byte), s.power = .running → canReceive s = true → ownNumber s ≠ some j →
     ∃ t u, exec (.giveTaken j v) s = .next t ∧ t.peers = s.peers ∧ t.clock = s.clock ∧ entryOf t.queue j = none ∧
       (s.queue.state ≠ .rebuild → entryOf s.queue j = none →
         t.queue = { s.queue with late := min 255 (s.queue.late + 1) }) ∧
       (∀ e, s.queue.state ≠ .rebuild → entryOf s.queue j = some e → e.serial = v →
         t.queue = { s.queue with entries := withoutStation j s.queue.entries }) ∧
       (∀ e, s.queue.state ≠ .rebuild → entryOf s.queue j = some e → e.serial ≠ v →
         t.queue = { s.queue with entries := withoutStation j s.queue.entries, state := .unsure, confirm := 2 }) ∧
       (s.queue.state = .rebuild → t.queue = { s.queue with entries := withoutStation j s.queue.entries }) ∧
       exec (.takeTaken j v) s = .next u ∧
       (s.queue.state = .rebuild → entryOf u.queue j = some { station := j, serial := v, shadow := none, hold := 0 } ∧
         u.queue.state = .rebuild ∧ u.queue.stale = s.queue.stale ∧
         u.queue.entries = withoutStation j s.queue.entries ++ [{ station := j, serial := v, shadow := none, hold := 0 }] ∧
         u.queue.nSet = true ∧ (s.queue.nSet = false → u.queue.n = v + 1) ∧
         (s.queue.nSet = true → serialDistance v s.queue.n ≤ 126 → u.queue.n = v + 1) ∧
         (s.queue.nSet = true → 126 < serialDistance v s.queue.n → u.queue.n = s.queue.n)))

/-- A JOINED station asks to answer a TERMS query in CLEAR and DOUBT, and does not in STUCK and MUTED; in LISTEN a usable TERMS set is weighed against the best heard set by the
table of R52; in JOINED a usable set of the version in force withdraws a pending set of the station's own (R50, R51, R52). -/
def Obligations.TermsFramesTaken : Prop :=
  ∀ (s : State) (j : Station) (p : TermsBytes), s.power = .running → canReceive s = true → ownNumber s ≠ some j →
    (s.join.membership = .joined → s.line.condition = .clear ∨ s.line.condition = .doubt →
      ∃ t, exec (.termsQueryTaken j) s = .next t ∧ t.out.terms = some .set ∧ t.join = s.join ∧ t.peers = s.peers ∧
        t.queue = s.queue) ∧
    (s.join.membership = .joined → s.line.condition = .stuck ∨ s.line.condition = .muted →
      ∃ t, exec (.termsQueryTaken j) s = .next t ∧ t.out.terms = s.out.terms ∧ t.join = s.join ∧ t.peers = s.peers ∧
        t.queue = s.queue) ∧
    (s.join.membership = .listen →
      ∃ t, exec (.termsQueryTaken j) s = .next t ∧ t.out.terms = s.out.terms ∧ t.join = s.join) ∧
    (∃ t, exec (.termsSetTaken j p) s = .next t ∧ t.peers = s.peers ∧ t.queue = s.queue ∧
      (decodeTerms p = none → t.join = s.join ∧ t.out.terms = s.out.terms) ∧
      (∀ x, decodeTerms p = some x → s.join.membership = .joined → t.join = s.join ∧
        (s.out.terms = some .set → x.version = s.join.terms.version → t.out.terms = none) ∧
        (x.version ≠ s.join.terms.version → t.out.terms = s.out.terms)) ∧
      (∀ x, decodeTerms p = some x → s.join.membership = .listen →
        (s.join.best = none → t.join = { s.join with best := some { terms := x, sender := j, conflict := false } }) ∧
        (∀ b, s.join.best = some b →
          (newerVersion x.version b.terms.version = true →
            t.join = { s.join with best := some { terms := x, sender := j, conflict := false } }) ∧
          (x.version = b.terms.version → x.agrees b.terms = false → j < b.sender →
            t.join = { s.join with best := some { terms := x, sender := j, conflict := true } }) ∧
          (x.version = b.terms.version → x.agrees b.terms = false → ¬ j < b.sender →
            t.join = { s.join with best := some { b with conflict := true } }) ∧
          (x.version = b.terms.version → x.agrees b.terms = true → j < b.sender →
            t.join = { s.join with best := some { b with sender := j } }) ∧
          (x.version ≠ b.terms.version → newerVersion x.version b.terms.version = false → t.join = s.join))))

/-- The pattern of R23, byte by byte, and the tally of R24: restarted for a new sender, one more frame received, one more
mismatched when a byte differs from the pattern of byte 0, each count to 255 at most. -/
def Obligations.TestFramesTallied : Prop :=
  (∀ (seed : Byte) (i : Nat), i < 16 → (testPattern seed)[i]? = some (BitVec.ofNat 8 (seed.toNat + 37 * i))) ∧
  (∀ (s : State) (j : Station) (p : Vector Byte 16), s.power = .running → canReceive s = true → ownNumber s ≠ some j →
    let fresh := s.line.tally.sender ≠ some j
    ∃ t, exec (.testTaken j p) s = .next t ∧ t.line.tally.sender = some j ∧
      t.line.tally.received = min 255 ((if fresh then 0 else s.line.tally.received) + 1) ∧
      ((∀ i : Fin 16, p.get i = BitVec.ofNat 8 ((p.get 0).toNat + 37 * i)) →
        t.line.tally.mismatched = (if fresh then 0 else s.line.tally.mismatched)) ∧
      ((∃ i : Fin 16, p.get i ≠ BitVec.ofNat 8 ((p.get 0).toNat + 37 * i)) →
        t.line.tally.mismatched = min 255 ((if fresh then 0 else s.line.tally.mismatched) + 1)) ∧
      t.peers = s.peers ∧ t.queue = s.queue ∧ t.clock = s.clock ∧ t.join = s.join)

/-! ### Rounds (Chapters 2, 3, 5 and 7) -/

/-- The end of REBUILD, from the copy q to the copy u (R116, R120). -/
def Sys2Proof.Machine.rebuildEnded (q u : Queue) : Prop :=
  u.state = .synced ∧ u.rebuild = 0 ∧ u.confirm = 0 ∧ u.nSet = true ∧ u.n = (if q.nSet then q.n else 0) ∧
  (∀ e, e ∈ u.entries ↔ ∃ x ∈ q.entries, serialDistance u.n x.serial < 240 ∧ e = { x with hold := 0 }) ∧
  u.entries.Pairwise (fun a b => entryBefore u.n b a = false) ∧ u.stale = q.stale ∧ u.late = q.late

/-- The running countdown at a round tick, from the copy q to the copy u (R115, R118, R120). -/
def Sys2Proof.Machine.countedDown (q u : Queue) : Prop :=
  (q.state = .synced → u = q) ∧
  (q.state = .unsure → 2 ≤ q.confirm → u = { q with confirm := q.confirm - 1 }) ∧
  (q.state = .unsure → q.confirm ≤ 1 → u = { q with state := .synced, confirm := 0 }) ∧
  (q.state = .rebuild → q.rebuild = 0 → u = q) ∧
  (q.state = .rebuild → q.rebuild = 1 → rebuildEnded q u) ∧
  (q.state = .rebuild → 2 ≤ q.rebuild → u = { q with rebuild := q.rebuild - 1 })

/-- Whether a station departs at the next round tick (R37, R38). -/
def Sys2Proof.Machine.departsNext (s : State) (j : Station) : Bool :=
  decide ((s.peers.records.get j).presence ≠ .absent ∧ 2 ≤ (s.peers.records.get j).age)

/-- The entries that the countdown of a round tick finds: those of the stations that depart at it SHADOW from it on, or in
REBUILD gone, and those SHADOW since an earlier tick gone (R119, R129). -/
def Sys2Proof.Machine.entriesAtTick (s : State) : List Entry :=
  let told := if s.queue.state = .rebuild then s.queue.entries.filter (fun e => !departsNext s e.station)
    else s.queue.entries.map (fun e =>
      if departsNext s e.station then { e with shadow := some (s.peers.ticks + 1) } else e)
  told.filter (fun e => match e.shadow with
    | none => true
    | some tick => decide (s.peers.ticks < tick))

/-- The entries that stand below the hold limit in force: what the end of LISTEN leaves of a copy (R126). -/
def Sys2Proof.Machine.belowHoldLimit (x : Terms) (q : Queue) : Queue :=
  { q with entries := q.entries.filter (fun e => decide (e.hold < x.holdLimit * 64)) }

/-- The end of LISTEN, from the state s to the state t, but for the queue copy: the terms selected and in force, the skew
evaluated, the frames pending, the threshold (R20), the trim still from the floor (R162), the filter states (R152) and the
cap (R87). -/
def Sys2Proof.Machine.listenEnded (s t : State) : Prop :=
  t.join.membership = .joined ∧ t.join.terms = (selectTerms s.join).1 ∧ t.join.source = (selectTerms s.join).2.1 ∧
  t.join.best = none ∧ t.join.straps = s.join.straps ∧ t.join.querySent = s.join.querySent ∧ t.join.skew = skewNow t ∧
  (s.join.skew = false → skewNow t = true → raised .termsSkew t = true) ∧
  ((selectTerms s.join).2.2 = true → raised .termsConflict t = true) ∧
  t.out.terms = (if s.out.terms = some .query then none else s.out.terms) ∧
  (s.line.condition = .clear ∨ s.line.condition = .doubt → t.out.status = true) ∧
  (s.line.condition = .clear → t.join.terms.errorThreshold ≤ s.line.errors →
    t.line.condition = .doubt ∧ raised .lineDoubt t = true ∧ t.out.take = false ∧ t.out.test = false) ∧
  (s.line.condition ≠ .clear ∨ s.line.errors < t.join.terms.errorThreshold → t.line = s.line) ∧
  t.line.errors = s.line.errors ∧
  t.filters.trim = (if s.filters.fromFloor then t.join.terms.trimFloor else s.filters.trim) ∧
  t.filters.fromFloor = s.filters.fromFloor ∧ statesFormed s t ∧ t.stack.cap = capFor t t.stack.demand

/-- What a round tick brings in the blocks that take it after the peer table: the queue copy (R118, R120, R129), the stack
share (R84 to R87), the join unit (R46, R47, R55) and the time base (R167). -/
def Sys2Proof.Machine.tickTaken : Prop :=
  ∀ s : State, s.power = .running → s.peers.roundTimer.isSome = true →
    let third := s.join.membership = .listen ∧ 2 ≤ s.join.listenTicks
    ∃ t u, exec .roundTick s = .next t ∧ countedDown { s.queue with entries := entriesAtTick s } u ∧
      (¬ third → t.queue = u) ∧ (third → queueRuled s → t.queue = belowHoldLimit t.join.terms u) ∧
      (third → listenEnded s t) ∧
      (s.join.membership = .listen → s.join.listenTicks < 2 →
        t.join = { s.join with listenTicks := s.join.listenTicks + 1 }) ∧
      (s.join.membership = .joined → t.join = { s.join with skew := skewNow t } ∧
        (s.join.skew = false → skewNow t = true → raised .termsSkew t = true)) ∧
      (s.join.membership = .straps → t.join = s.join) ∧
      t.stack.cap = capFor t t.stack.demand ∧
      (2 ≤ s.stack.backoff → t.stack.backoff = s.stack.backoff - 1) ∧
      ((∃ j, departsNext s j = true) → t.clock = { s.clock with source := sourceNow t }) ∧
      ((∀ j, departsNext s j = false) → t.clock = s.clock ∧
        (∀ x, s.join.straps = some x → s.join.membership = .joined →
          (overLimitIn s t → raised .stackCut t = true ∧
            t.stack.backoff = (if s.stack.backoff ≤ 1 then x.number.val + 1 else s.stack.backoff - 1)) ∧
          (¬ overLimitIn s t → t.join.skew = s.join.skew → demandOf (classRow x.fanClass) s = s.stack.demand →
            t.stack.demand = s.stack.demand → t.stack.backoff = s.stack.backoff - 1)))

/-- A round tick starts the next round, ages every PRESENT or STALE record by one (PRESENT at 1, STALE at 2), clears those that
come to 3, leaves ABSENT ones, asks for the STATUS of a JOINED station with a CLEAR or DOUBT line, and in JOINED evaluates
skew: raised while a record held reports another version than the terms in force (R21, R25, R26, R37, R38, R55). The queue copy
loses its earlier SHADOW entries, makes SHADOW those of the departed, and lowers its running countdown, REBUILD and UNSURE
ending in SYNCED (R118, R120, R129); the backoff count falls by one and an evaluation is made with the lowered count, which may
cut anew (R84 to R87); LISTEN counts the tick and ends at its third (R46, R47, R54); a departure forms the time source again
(R167). The tick is taken whenever the round timer runs, whatever it still has to run (log 2); the blocks take it one after
the other, departures first, so that skew is judged after the aging of the same tick (log 3): the model's choices. -/
def Obligations.RoundTickAgesTheRecords : Prop :=
  (∀ (s : State) (j : Station), s.power = .running → s.peers.roundTimer.isSome = true →
    let r := s.peers.records.get j
    ∃ t, exec .roundTick s = .next t ∧ t.peers.roundTimer = some (seconds 4) ∧ t.peers.ticks = s.peers.ticks + 1 ∧
      t.peers.ownReport = s.peers.ownReport ∧ t.peers.unusable = s.peers.unusable ∧
      (r.presence = .absent → t.peers.records.get j = r) ∧
      (r.presence ≠ .absent → r.age = 0 → t.peers.records.get j = { r with age := 1 }) ∧
      (r.presence ≠ .absent → r.age = 1 → t.peers.records.get j = { r with age := 2, presence := .stale }) ∧
      (r.presence ≠ .absent → 2 ≤ r.age → t.peers.records.get j = { presence := .absent, age := 0, fields := none }) ∧
      (s.join.membership = .joined → s.line.condition = .clear ∨ s.line.condition = .doubt → t.out.status = true) ∧
      (s.join.membership = .joined → t.join.skew = skewNow t) ∧
      t.mode = s.mode ∧ t.nv = s.nv ∧ t.sensors = s.sensors ∧ t.panel = s.panel ∧ t.clock.time = s.clock.time) ∧
  (∀ s : State, skewNow s = true ↔ ∃ (j : Station) (r : Report), (s.peers.records.get j).presence ≠ .absent ∧
    (s.peers.records.get j).fields = some r ∧ r.termsVersion ≠ s.join.terms.version) ∧
  tickTaken

/-- A departure clears the record and lowers P by one; the departed station's entry becomes SHADOW, or in REBUILD goes at
once; the stack share unit evaluates with the new P, the over-limit check first and then the cap; and the time source is
formed again (R38, R40, R84, R85, R87, R119, R129, R167). As a command of its own a departure is taken at the tick that brings
the age to 3: the model's reading (log 4). -/
def Obligations.DepartureClearsTheRecord : Prop :=
  ∀ (s : State) (j : Station), s.power = .running → (s.peers.records.get j).held = true →
    2 ≤ (s.peers.records.get j).age →
    ∃ t, exec (.peerDeparture j) s = .next t ∧
      t.peers = { s.peers with records := s.peers.records.set j { presence := .absent, age := 0, fields := none } } ∧
      presenceCount t + 1 = presenceCount s ∧
      (s.queue.state ≠ .rebuild → t.queue = { s.queue with
        entries := s.queue.entries.map (fun x => if x.station = j then { x with shadow := some s.peers.ticks } else x) }) ∧
      (s.queue.state = .rebuild → t.queue = { s.queue with entries := withoutStation j s.queue.entries }) ∧
      t.stack.cap = capFor t t.stack.demand ∧
      (∀ x, s.join.straps = some x →
        (overLimitIn s t → raised .stackCut t = true ∧
          t.stack.backoff = (if s.stack.backoff = 0 then x.number.val + 1 else s.stack.backoff)) ∧
        (¬ overLimitIn s t → demandOf (classRow x.fanClass) s = s.stack.demand → t.stack.demand = s.stack.demand →
          t.stack.backoff = s.stack.backoff)) ∧
      t.clock = { s.clock with source := sourceNow t } ∧ t.line = s.line ∧ t.join = s.join ∧ t.mode = s.mode ∧ t.nv = s.nv

/-- The selection of R54, step by step: the candidate is the panel set or the defaults; with the override strap it is
chosen; else a newer heard set is chosen, or one of the same version, with a conflict where the panel set's contents differ
or the conflict mark is set. The third tick of LISTEN puts the selected terms into force, joins the station, discards the
best heard set, withdraws a pending query, asks for the first STATUS, and evaluates skew (R26, R47, R54, R55). The new
threshold takes CLEAR to DOUBT when E is at or above it (R20), entries at or above the new hold limit are removed, an own one
as a hold overrun (R126, R127), a trim still from the floor takes the new floor (R162), the filter states are formed (R152),
and the stack share evaluates (R87). LISTEN_END as a command of its own is that third tick's part: the model's reading
(log 4). -/
def Obligations.EndOfListenSelectsTerms : Prop :=
  (∀ j : Join,
     let candidate : Terms := j.panelSet.getD Terms.defaults
     let source : TermsSource := if j.panelSet.isSome then .panel else .defaults
     (∀ x, j.straps = some x → x.override = true → selectTerms j = (candidate, source, false)) ∧
     (j.best = none → selectTerms j = (candidate, source, false)) ∧
     (∀ x b, j.straps = some x → x.override = false → j.best = some b →
       (newerVersion b.terms.version candidate.version = true → selectTerms j = (b.terms, .heard b.sender, b.conflict)) ∧
       (newerVersion b.terms.version candidate.version = false → b.terms.version = candidate.version →
         selectTerms j =
           (b.terms, .heard b.sender, b.conflict || (j.panelSet.isSome && !candidate.agrees b.terms))) ∧
       (newerVersion b.terms.version candidate.version = false → b.terms.version ≠ candidate.version →
         selectTerms j = (candidate, source, false)))) ∧
  (∀ s : State, s.power = .running → s.join.membership = .listen → 2 ≤ s.join.listenTicks →
     let overdue (t : State) : Prop := ∃ e ∈ s.queue.entries, ownNumber s = some e.station ∧ t.join.terms.holdLimit * 64 ≤ e.hold
     ∃ t, exec .listenEnd s = .next t ∧ listenEnded s t ∧
       (queueRuled s → t.queue = belowHoldLimit t.join.terms s.queue) ∧
       (overdue t → raised .holdOverrun t = true ∧ t.frost.reTake = some (seconds 120)) ∧
       (¬ overdue t → t.frost.reTake = s.frost.reTake) ∧
       t.peers = s.peers ∧ t.mode = s.mode ∧ t.clock = s.clock ∧ t.nv = s.nv ∧ t.panel = s.panel)

/-- The end of REBUILD sets N, drops the entries 240 or more serials back, orders the rest oldest first with hold 0, and
makes the copy SYNCED; the end of UNSURE makes it SYNCED (R118, R120). Each as a command of its own is taken with its
countdown at its last tick: the model's reading (log 4). -/
def Obligations.CopyBecomesSynced : Prop :=
  ∀ s : State, s.power = .running →
    (s.queue.state = .rebuild → s.queue.rebuild = 1 → ∃ t, exec .rebuildEnd s = .next t ∧ rebuildEnded s.queue t.queue ∧
      t.peers = s.peers ∧ t.line = s.line ∧ t.clock = s.clock) ∧
    (s.queue.state = .unsure → s.queue.confirm ≤ 1 → ∃ t, exec .confirmEnd s = .next t ∧
      t.queue = { s.queue with state := .synced, confirm := 0 } ∧ t.peers = s.peers ∧ t.line = s.line ∧
      t.clock = s.clock)

/-- The request for a place and the give-up (R107, R108, R132, R134): when the conditions to ask hold, what asking sets, and
what a give-up makes of a pending TAKE, a TAKE being sent, an own entry, or neither. -/
def Sys2Proof.Machine.placeRequests : Prop :=
  (∀ s : State,
     (wantsTake s = true ↔ s.frost.stage = .reduce ∧ s.frost.blind = false ∧ ownEntry s = none ∧
       s.own.outstanding = false ∧ s.frost.reTake = none ∧ s.join.membership = .joined ∧ s.line.condition = .clear ∧
       s.queue.state ≠ .rebuild) ∧
     (wantsTake s = true → requestTake s = { s with
       out := { s.out with take := true }, own := { s.own with outstanding := true } }) ∧
     (wantsTake s = false → requestTake s = s)) ∧
  (∀ s : State,
     let sendable := s.join.membership = .joined ∧ (s.line.condition = .clear ∨ s.line.condition = .doubt)
     (s.out.take = true → giveUp s = { s with
       out := { s.out with take := false }, own := { s.own with outstanding := false } }) ∧
     (s.out.take = false → sendingTake s = true → sendable → giveUp s = { s with out := { s.out with give := true } }) ∧
     (∀ e, s.out.take = false → sendingTake s = false → ownEntry s = some e → sendable → giveUp s = { s with
       out := { s.out with give := true }, own := { s.own with leaving := some e.serial } }) ∧
     (∀ e, s.out.take = false → sendingTake s = false → ownEntry s = some e →
       s.line.condition = .stuck ∨ s.line.condition = .muted →
       giveUp s = { s with own := { s.own with leaving := none } }) ∧
     (s.out.take = false → sendingTake s = false → ownEntry s = none → giveUp s = s))

/-- The port can take a request: the station runs, no reply is owed, and no restart waits (R184, R185, R187). -/
def Sys2Proof.Machine.portFree (s : State) : Prop :=
  s.power = .running ∧ s.panel.reply = .none ∧ s.panel.restartWait = none

/-- Where a place is asked for and given up by commands: the end of the re-take wait asks (R107, R109); the stop timer, the
clear timer in PREHEAT and a panel OFF give up (R102, R105, R108, R113); a granted place in PREHEAT is given up when the
line becomes DOUBT (R103, R136). A panel OFF in STOP gives nothing up (R113). -/
def Sys2Proof.Machine.placeCommands : Prop :=
  (∀ s : State, s.power = .running → s.frost.reTake.isSome = true → told s →
     wantsTake { s with frost := { s.frost with reTake := none } } = true →
     ∃ t, exec .reTakeWaitEnds s = .next t ∧ t.out.take = true ∧ t.own.outstanding = true) ∧
  (∀ s : State, s.power = .running → s.frost.stopTimer.isSome = true → s.frost.stage = .reduce ∨ s.frost.stage = .preheat →
     exec .stopTimerExpires s = .next (settle (raise .frostStop (giveUp { s with frost := { s.frost with
       stage := .stop, stepTimer := none, clearTimer := none, stopTimer := none, thawTimer := some (seconds 900),
       preheater := false } })))) ∧
  (∀ s : State, s.power = .running → s.frost.clearTimer.isSome = true → s.frost.stage = .preheat →
     exec .clearTimerExpires s = .next (settle (giveUp { s with frost := { s.frost with
       stage := .watch, reduction := 0, blind := false, stepTimer := none, clearTimer := none, stopTimer := none,
       thawTimer := none, preheater := false } }))) ∧
  (∀ (s : State) (chars : List CharLevels) (e : Entry), s.power = .running → canReceive s = true →
     (receiveFault (receiveChars chars)).isSome = true → s.line.condition = .clear →
     s.join.terms.errorThreshold ≤ min 31 (s.line.errors + 1) →
     ∃ t, exec (.receiveError chars) s = .next t ∧
       (s.out.take = true → t.own.outstanding = false) ∧ (s.out.give = true → t.out.give = true) ∧
       (told s → eligibleNow s = true → s.frost.stage = .preheat → ownEntry s = some e →
         t.out.give = true ∧ t.own.leaving = some e.serial ∧ t.frost.stage = .reduce)) ∧
  (∀ s : State, s.power = .running → s.line.receiverOn = true → s.panel.restartWait = none →
     s.line.condition = .clear ∨ s.line.condition = .doubt →
     ∃ t, exec .lineStuck s = .next t ∧ (s.out.give = true → t.own.leaving = none) ∧
       (s.out.take = true → t.own.outstanding = false) ∧
       (s.out.take = false → t.own.outstanding = s.own.outstanding)) ∧
  (∀ (s : State) (m : Byte), portFree s →
     let asked := holdRequest 2 [4, m] s
     let off : State := { asked with mode := { s.mode with held := some .off, boost := none } }
     let cleared : State := { off with frost := { s.frost with
       stage := .clear, reduction := 0, blind := false, stepTimer := none, clearTimer := none, stopTimer := none,
       thawTimer := none, preheater := false } }
     (s.frost.stage ≠ .stop → exec (.modeSet 4 m) s = .next (done [] (settle (giveUp cleared)))) ∧
     (s.frost.stage = .stop → exec (.modeSet 4 m) s = .next (done [] (settle off))) ∧
     ∃ t, exec (.modeSet 4 m) s = .next t ∧
       (s.frost.stage ≠ .stop → s.out.take = true →
         t.out.take = false ∧ t.own.outstanding = false ∧ t.out.give = s.out.give ∧ t.own.leaving = s.own.leaving) ∧
       (∀ e, s.frost.stage ≠ .stop → s.out.take = false → sendingTake s = false → ownEntry s = some e →
         s.join.membership = .joined → s.line.condition = .clear ∨ s.line.condition = .doubt →
         t.out.give = true ∧ t.own.leaving = some e.serial) ∧
       (s.frost.stage = .stop → t.out = s.out ∧ t.own.leaving = s.own.leaving ∧ t.own.outstanding = s.own.outstanding))

/-- A lockout (R122): a far TAKE asks for a GIVE of the own entry, withdraws a pending own TAKE, and empties the copy. -/
def Sys2Proof.Machine.lockoutGivesUp : Prop :=
  ∀ (s : State) (j : Station) (v : Byte), s.power = .running → canReceive s = true → ownNumber s ≠ some j →
    s.queue.state ≠ .rebuild → s.join.terms.ahead < serialDistance v s.queue.n →
    serialDistance v s.queue.n < 256 - s.join.terms.behind →
    ∃ t, exec (.takeTaken j v) s = .next t ∧ t.queue.state = .rebuild ∧ t.queue.entries = [] ∧
      raised .queueLockout t = true ∧
      (s.out.take = true → t.out.take = false ∧ t.own.outstanding = false) ∧
      (∀ e, ownEntry s = some e → s.join.membership = .joined → s.line.condition = .clear ∨ s.line.condition = .doubt →
        t.out.give = true ∧ t.own.leaving = some e.serial) ∧
      (ownEntry s = none → t.out.give = s.out.give ∧ t.own.leaving = s.own.leaving)

/-- Which entries are granted and when the station is eligible (R117, R135). -/
def Sys2Proof.Machine.grantsFormed : Prop :=
  (∀ (s : State) (j : Station), granted s j = true ↔ s.queue.state ≠ .rebuild ∧
     ∃ i < kEff s, (s.queue.entries[i]?).map Entry.station = some j) ∧
  (∀ s : State, eligibleNow s = true ↔ ∃ own, ownNumber s = some own ∧ granted s own = true ∧
     (s.queue.state = .synced ∨ s.queue.state = .unsure) ∧ s.join.membership = .joined ∧ s.line.condition = .clear)

/-- An own entry appears, as the own TAKE completes, in a stage that wants none: it is given up unless a GIVE is pending (R108,
R134). -/
def Sys2Proof.Machine.unwantedPlaceGivenUp : Prop :=
  ∀ (s : State) (own : Station) (f : Sending), s.power = .running → ownNumber s = some own → s.line.sending = some f →
    f.content = .take s.queue.n → s.queue.state = .synced → ownEntry s = none → s.out.take = false →
    s.frost.stage = .clear ∨ s.frost.stage = .watch ∨ s.frost.stage = .stop ∨
      (s.frost.stage = .reduce ∧ s.frost.blind = true) →
    ∃ t, exec .ownFrameComplete s = .next t ∧ (ownEntry t).isSome = true ∧ t.frost.stage = s.frost.stage ∧
      (s.out.give = false → s.join.membership = .joined → s.line.condition = .clear ∨ s.line.condition = .doubt →
        t.out.give = true ∧ t.own.leaving = some s.queue.n) ∧
      (s.out.give = false → s.line.condition = .stuck ∨ s.line.condition = .muted →
        t.out.give = false ∧ t.own.leaving = none) ∧
      (s.out.give = true → t.out.give = true ∧ t.own.leaving = s.own.leaving)

/-- An entry is granted when its position is below K_eff in SYNCED or UNSURE, so that at most K_eff are (R117): K of the terms,
or 1 under skew, and none in REBUILD. The station is eligible when its own entry is granted, the copy SYNCED or UNSURE, the
membership JOINED and the line CLEAR (R135). A SHADOW entry is
removed at its tick; a granted entry is removed at its hold limit, and when it is the station's own that is a hold overrun:
HOLD_OVERRUN, the re-take wait, and no GIVE asked for (R126, R127, R129). A place is asked for and given up as R107, R108,
R122, R132, R134 and R136 say, and an own entry that appears in CLEAR, WATCH, STOP or BLIND is given up unless a GIVE of the
station's own is pending (R108); that a GIVE already pending stays when a pending TAKE cancels a give-up is the model's reading
of R18 (log 18). As commands of their own, the removal is taken for any SHADOW entry (log 4), and the expiry for any granted
one and each timer's end while it runs, whatever time it still has (log 2): the model's choices. -/
def Obligations.GrantsHoldsAndOwnPlace : Prop :=
  (∀ s : State, queueRuled s →
     (s.queue.entries.filter (fun e => granted s e.station)).length ≤ kEff s ∧
     kEff s = (if s.join.skew then 1 else s.join.terms.concurrency) ∧
     (s.queue.state = .rebuild → ∀ j, granted s j = false)) ∧
  (∀ (s : State) (j : Station), s.power = .running →
     (∀ e, entryOf s.queue j = some e → e.shadow.isSome = true → ∃ t, exec (.shadowRemoval j) s = .next t ∧
       t.queue = { s.queue with entries := withoutStation j s.queue.entries } ∧ t.frost.reTake = s.frost.reTake ∧
       t.peers = s.peers ∧ t.line = s.line ∧ t.clock = s.clock) ∧
     (granted s j = true → ∃ t, exec (.holdExpiry j) s = .next t ∧
       t.queue = { s.queue with entries := withoutStation j s.queue.entries } ∧
       (ownNumber s = some j → raised .holdOverrun t = true ∧ t.frost.reTake = some (seconds 120) ∧
         (s.out.take = false → sendingTake s = false →
           t.out.give = s.out.give ∧ t.out.take = false ∧ t.own.leaving = s.own.leaving)) ∧
       (ownNumber s ≠ some j → t.frost.reTake = s.frost.reTake) ∧
       t.peers = s.peers ∧ t.line = s.line ∧ t.clock = s.clock)) ∧
  placeRequests ∧ placeCommands ∧ lockoutGivesUp ∧ grantsFormed ∧ unwantedPlaceGivenUp

/-! ### The riser and the plan (Chapters 4 and 5) -/

/-- R82: the cap for a demand, entry by entry, never larger than the demand, so that at step 4 the extract becomes the cap
itself; and the figures of the rule's own table. P and the claims are those of the PRESENT and STALE records (R40, R81). -/
def Obligations.CapTable : Prop :=
  ∀ (s : State) (d : Nat),
    let holds (j : Station) : Prop := (s.peers.records.get j).presence ≠ .absent
    presenceCount s = 1 + ((List.finRange 16).filter (fun j => decide (holds j))).length ∧
    heldReports s = (List.finRange 16).filterMap (fun j => if holds j then (s.peers.records.get j).fields else none) ∧
    let B := s.join.terms.stackLimit / presenceCount s
    let H : Int := (s.join.terms.stackLimit : Int) - ((heldReports s).map Report.claim).sum
    let clear := s.join.membership = .joined ∧ s.line.condition = .clear
    let unhurt := s.stack.backoff = 0 ∧ s.join.skew = false
    (¬ clear → capFor s d = min d (s.join.terms.stackLimit / 16)) ∧
    (clear → ¬ unhurt → capFor s d = min d B) ∧
    (clear → unhurt → d ≤ B → capFor s d = d) ∧
    (clear → unhurt → B < d → (capFor s d : Int) = max (B : Int) (min (d : Int) H)) ∧
    capFor s d ≤ d ∧ min d (capFor s d) = capFor s d ∧
    (s.join.terms.stackLimit = 1200 → presenceCount s = 10 → H = 140 →
      (¬ clear → capFor s 180 = 75 ∧ capFor s 100 = 75) ∧
      (clear → ¬ unhurt → capFor s 180 = 120 ∧ capFor s 100 = 100) ∧
      (clear → unhurt → capFor s 180 = 140 ∧ capFor s 100 = 100))

/-- An over-committed riser cuts a station that takes more than its base share: a backoff of its number plus one, unless one
runs, STACK_CUT, the cap at the base share and the claim no higher (R84, R85). Without the finding nothing is cut. The
backoff ends at the tick that takes its count from 1 to 0, with an evaluation made without it (R86, R87). BACKOFF_END as a
command of its own is that tick's part: the model's reading (log 4). -/
def Obligations.OverLimitCutsAndBackoffEnds : Prop :=
  (∀ (s : State) (x : Straps), s.join.straps = some x →
     let excess := s.join.terms.stackLimit < peerClaims s + s.stack.claim ∧
       s.join.terms.stackLimit / presenceCount s < s.stack.claim
     (excess →
       raised .stackCut (evaluate s) = true ∧
       (evaluate s).stack.backoff = (if s.stack.backoff = 0 then x.number.val + 1 else s.stack.backoff) ∧
       (s.join.membership = .joined → s.line.condition = .clear → claimRuled s →
         demandOf (classRow x.fanClass) s = s.stack.demand →
         (evaluate s).stack.cap = s.join.terms.stackLimit / presenceCount s ∧
         (evaluate s).stack.claim ≤ s.join.terms.stackLimit / presenceCount s)) ∧
     (¬ excess → checkLimit s = s)) ∧
  (∀ s : State, s.power = .running → s.stack.backoff = 1 →
     exec .backoffEnd s = .next (settle (evaluate { s with stack := { s.stack with backoff := 0 } })))

/-- The effective mode is the first of R61 that holds, the last of them the base mode, which is the held one, else the scheduled
one, else NORMAL (R57, R60). -/
def Obligations.EffectiveModeFirstMatch : Prop :=
  ∀ s : State,
    let base := baseMode s.mode
    let failed := s.supplyFan.state = .failed ∨ s.extractFan.state = .failed
    (base = .off → effectiveMode s = .off) ∧
    (base ≠ .off → s.frost.stage = .stop → effectiveMode s = .frostStop) ∧
    (base ≠ .off → s.frost.stage ≠ .stop → failed → effectiveMode s = .fanFault) ∧
    (base ≠ .off → s.frost.stage ≠ .stop → ¬ failed → s.mode.boost.isSome = true → effectiveMode s = .boost) ∧
    (base ≠ .off → s.frost.stage ≠ .stop → ¬ failed → s.mode.boost = none → s.humid.state = .boost →
      effectiveMode s = .humid) ∧
    (base ≠ .off → s.frost.stage ≠ .stop → ¬ failed → s.mode.boost = none → s.humid.state ≠ .boost →
      effectiveMode s = base.effective) ∧
    (∀ b, s.mode.held = some b → base = b) ∧
    (∀ m, s.mode.held = none → s.mode.scheduled = some m → base = m.base) ∧
    (s.mode.held = none → s.mode.scheduled = none → base = .normal) ∧
    [SchedMode.normal, .night, .away].map SchedMode.base = [.normal, .night, .away] ∧
    [BaseMode.normal, .night, .away, .off].map BaseMode.effective = [.normal, .night, .away, .off]

/-- The balance step brings supply and extract within the imbalance limit of one another, raises neither, and leaves a pair
that is within it as it is (R63 step 7, R65). -/
def Obligations.BalanceWithinTheLimit : Prop :=
  ∀ supply extract limit : Nat, limit ≤ 20 →
    let b := balanceStep supply extract limit
    b.1 * 100 ≤ b.2 * (100 + limit) ∧ b.2 * (100 - limit) ≤ b.1 * 100 ∧ b.1 ≤ supply ∧ b.2 ≤ extract ∧
    (supply * 100 < extract * (100 - limit) → b = (supply, supply * 100 / (100 - limit))) ∧
    (extract * (100 + limit) < supply * 100 → b = (extract * (100 + limit) / 100, extract)) ∧
    (extract * (100 - limit) ≤ supply * 100 → supply * 100 ≤ extract * (100 + limit) → b = (supply, extract))

/-! ### Panel requests -/

/-- The panel port with the request in its buffer and the reply being sent (R183, R184). -/
def Sys2Proof.Machine.answered (p : Panel) (code : Byte) (request : List Byte) (kind : ReplyKind) (data : List Byte) :
    Panel :=
  { p with phase := .sum, code := code, length := byteOf request.length, data := request,
           reply := .sending { kind := kind, code := code, data := data } }

/-- MODE_SET on the mode record, with the codes of R186 (R58): a held mode ends a boost, OFF tells the frost guard (R113; what it gives up is said in
GrantsHoldsAndOwnPlace), BOOST sets the minutes
and clears a held OFF, anything else is refused for range and changes nothing. The end of the boost removes it; a
boost with more than a second left, as one set anew in the second in which an old one would have ended, stays (R59). That
BOOST_EXPIRES is taken throughout the boost's last second is the model's choice (log 2). -/
def Obligations.ModeSetRule : Prop :=
  ∀ (s : State) (m : Byte),
    (∀ (code : Byte) (b : BaseMode), portFree s → heldOfCode code.toNat = some b → b ≠ .off →
      ∃ t, exec (.modeSet code m) s = .next t ∧ t.mode = { s.mode with held := some b, boost := none } ∧
        t.panel = answered s.panel 2 [code, m] .done [] ∧ t.line = s.line ∧ t.queue = s.queue ∧ t.clock = s.clock) ∧
    (portFree s → s.frost.stage ≠ .stop →
      ∃ t, exec (.modeSet 4 m) s = .next t ∧ t.mode = { s.mode with held := some .off, boost := none } ∧
        t.panel = answered s.panel 2 [4, m] .done [] ∧ t.frost.stage = .clear ∧ t.frost.reduction = 0 ∧
        t.frost.blind = false ∧ t.frost.preheater = false ∧ t.frost.stepTimer = none ∧ t.frost.clearTimer = none ∧
        t.frost.stopTimer = none ∧ t.frost.reTake = s.frost.reTake) ∧
    (portFree s → s.frost.stage = .stop →
      ∃ t, exec (.modeSet 4 m) s = .next t ∧ t.mode = { s.mode with held := some .off, boost := none } ∧
        t.frost.stage = .stop ∧ t.frost.thawTimer = s.frost.thawTimer) ∧
    (portFree s → 10 ≤ m.toNat → m.toNat ≤ 120 →
      ∃ t, exec (.modeSet 5 m) s = .next t ∧
        t.mode = { s.mode with held := if s.mode.held = some .off then none else s.mode.held
                               boost := some (seconds (m.toNat * 60)) } ∧
        t.panel = answered s.panel 2 [5, m] .done [] ∧ t.line = s.line ∧ t.queue = s.queue ∧ t.clock = s.clock) ∧
    (∀ code : Byte, portFree s → (code = 0 ∨ 5 < code.toNat ∨ (code = 5 ∧ (m.toNat < 10 ∨ 120 < m.toNat))) →
      exec (.modeSet code m) s = .next { s with panel := answered s.panel 2 [code, m] .refused [1] }) ∧
    (∀ n, s.power = .running → s.mode.boost = some n → seconds 1 < n → exec .boostExpires s = .next s) ∧
    (∀ n, s.power = .running → s.mode.boost = some n → n ≤ seconds 1 →
      ∃ t, exec .boostExpires s = .next t ∧ t.mode = { s.mode with boost := none } ∧ t.line = s.line ∧
        t.queue = s.queue ∧ t.clock = s.clock ∧ t.panel = s.panel) ∧
    (heldOfCode 1 = some .normal ∧ heldOfCode 2 = some .night ∧ heldOfCode 3 = some .away ∧ heldOfCode 4 = some .off ∧
      ∀ n, n = 0 ∨ 4 < n → heldOfCode n = none)

/-! ### Fans (Chapter 4) -/

/-- A tach edge in STARTING or RUNNING (R70): the first one held gives no speed, an edge less than 7500 µs after the last
accepted one is ignored altogether, any other sets the speed; in the other states the input is not read. The speed loop
moves the duty by a thirty-second of the speed difference, at most 8, and keeps it within 20 to 255; a minute of running
clears the attempts (R73, R77); a step that finds the speed farther than 5 percent from its target ends the qualifying of the
accounting minute (R154). Each command is taken in the states its rule names, whatever its timer still has to
run (log 2), the time of an edge is the sender's (log 12), and the loop's 250 ms start again at each step (log 35): the
model's choices. -/
def Obligations.SpeedMeasuredAndHeld : Prop :=
  (∀ (s : State) (d : Side) (time : Nat), s.power = .running →
     let f := fanOf s d
     let turning := f.state = .starting ∨ f.state = .running
     (¬ turning → exec (.tachEdge d time) s = .next s) ∧
     (turning → f.lastEdge = none → exec (.tachEdge d time) s =
       .next (setFan s d { f with edgeSeen := true, stallWindow := some (seconds 1), lastEdge := some time })) ∧
     (∀ last, turning → f.lastEdge = some last → time < last + 7500 → exec (.tachEdge d time) s = .next s) ∧
     (∀ last, turning → f.lastEdge = some last → last + 7500 ≤ time → exec (.tachEdge d time) s =
       .next (setFan s d { f with edgeSeen := true, stallWindow := some (seconds 1), lastEdge := some time
                                  measured := 30000000 / (time - last) }))) ∧
  ((∀ (s : State) (d : Side), s.power = .running → (fanOf s d).state = .running →
     let f := fanOf s d
     let change : Int := max (-8) (min 8 ((((f.targetSpeed : Int) - f.measured)).tdiv 32))
     (∃ t, exec (.speedLoopStep d) s = .next t ∧ ((fanOf t d).duty : Int) = max 20 (min 255 ((f.duty : Int) + change)) ∧
       fanOf t d = { f with duty := (fanOf t d).duty, loopTimer := some loopTicks } ∧
       t = { setFan s d (fanOf t d) with filters := { s.filters with
         supplyMinute := t.filters.supplyMinute, extractMinute := t.filters.extractMinute } } ∧
       (minuteKept t d = true ↔
         minuteKept s d = true ∧ 20 * ((f.targetSpeed : Int) - f.measured).natAbs ≤ f.targetSpeed) ∧
       (∀ e ≠ d, minuteKept t e = minuteKept s e)) ∧
     exec (.runningTimeReached d) s = .next (setFan s d { f with runTime := seconds 60, attempts := 0 })) ∧
   loopChange 252 0 = 7 ∧ loopChange 552 0 = 8 ∧ loopChange 0 10 = 0)

/-- The end of a kick takes the fan to RUNNING when an edge was seen and is a stall event otherwise; an expired stall window
is a stall event; the end of the restart wait starts the fan again, or at five attempts makes it FAILED (R72 to R76). Each
command is taken in the state its rule names, whatever its timer still has to run (log 2), and the speed loop's first step
falls 250 ms after the entry to RUNNING (log 35): the model's choices. -/
def Obligations.FanTimersMoveTheFan : Prop :=
  ∀ (s : State) (d : Side), s.power = .running →
    let f := fanOf s d
    let stalled : State := raise .stall (setFan s d { f with
      state := .stalled, duty := 0, measured := 0, attempts := f.attempts + 1, stateTimer := some (seconds 30),
      stallWindow := none, runTime := 0, loopTimer := none })
    (f.state = .starting → f.edgeSeen = true → exec (.kickEnds d) s = .next (settle (setFan s d { f with
      state := .running, duty := 128, stateTimer := none, stallWindow := some (seconds 1), runTime := 0,
      loopTimer := some loopTicks }))) ∧
    (f.state = .starting → f.edgeSeen = false → exec (.kickEnds d) s = .next (settle stalled)) ∧
    (f.state = .running → f.stallWindow.isSome = true → exec (.stallWindowExpires d) s = .next (settle stalled)) ∧
    (f.state = .stalled → f.attempts < 5 → exec (.fanRestartWaitEnds d) s = .next (settle (setFan s d { f with
      state := .starting, duty := 128, measured := 0, stateTimer := some (seconds 2), stallWindow := none,
      edgeSeen := false, lastEdge := none, runTime := 0, loopTimer := none }))) ∧
    (f.state = .stalled → 5 ≤ f.attempts → exec (.fanRestartWaitEnds d) s =
      .next (settle (raise .fanFailed (setFan s d { f with
        state := .failed, duty := 0, measured := 0, stateTimer := none, stallWindow := none, runTime := 0,
        loopTimer := none })))) ∧
    (raised .stall (settle stalled) = true ∧ (fanOf (settle stalled) d).attempts = f.attempts + 1)

/-- FAN_CLEAR returns a FAILED fan to STOPPED with attempts 0, has no effect on a fan in any other state, and refuses any
other name (R78). -/
def Obligations.FanClearRule : Prop :=
  ∀ (s : State) (b : Byte) (d : Side), portFree s →
    (sideOfByte b = some d → (fanOf s d).state = .failed → ∃ t, exec (.fanClear b) s = .next t ∧
      t = { settle (setFan (holdRequest 8 [b] s) d
        { fanOf s d with state := .stopped, duty := 0, measured := 0, stateTimer := none, stallWindow := none,
                         runTime := 0, loopTimer := none, attempts := 0 }) with
            panel := answered s.panel 8 [b] .done [] } ∧ (fanOf t d).attempts = 0) ∧
    (sideOfByte b = some d → (fanOf s d).state ≠ .failed →
      exec (.fanClear b) s = .next { s with panel := answered s.panel 8 [b] .done [] }) ∧
    (1 < b.toNat → exec (.fanClear b) s = .next { s with panel := answered s.panel 8 [b] .refused [1] }) ∧
    sideOfByte 0 = some .supply ∧ sideOfByte 1 = some .extract

/-! ### Sensors and frost (Chapters 6 and 11) -/

/-- R176: a conversion is a bad sample when it yields open or short or lies outside its channel's range, and else a good
sample with its value; each channel is judged by its own conversion alone. A reading counts while its channel is VALID
(R178). -/
def Obligations.ConversionsJudged : Prop :=
  (∀ low high v : Int, goodSample low high (.reading v) = if low ≤ v ∧ v ≤ high then some v else none) ∧
  (∀ low high : Int, goodSample low high .openInput = none ∧ goodSample low high .shortInput = none) ∧
  (∀ (x : Sensors) (o s e q h : Conversion),
    (x.take o s e q h).tO = x.tO.take (goodSample (-400) 850 o) ∧
    (x.take o s e q h).tS = x.tS.take (goodSample (-400) 850 s) ∧
    (x.take o s e q h).tE = x.tE.take (goodSample (-400) 850 e) ∧
    (x.take o s e q h).tX = x.tX.take (goodSample (-400) 850 q) ∧
    (x.take o s e q h).hE = x.hE.take (goodSample 0 100 h)) ∧
  (∀ (c : Channel) (v : Int), c.value = some v ↔ c.state = .valid ∧ c.reading = some v)

/-- The frost guard's evaluation at a scan (R93 to R99, R102, R111, R112), L the limit temperature it forms. Cold and mild
are judged of T_o as R95 says of an invalid channel. -/
def Sys2Proof.Machine.frostAtScan : Prop :=
  (∀ s : State, s.join.membership ≠ .joined ∨ baseMode s.mode = .off ∨ s.frost.stage = .stop → frostScan s = s) ∧
  (∀ s : State, s.join.membership = .joined → baseMode s.mode ≠ .off →
    let L := s.join.terms.frostBase + humidLift s.sensors.hE.value
    let cold := ∀ o, s.sensors.tO.value = some o → o ≤ -20
    let mild := ∃ o, s.sensors.tO.value = some o ∧ 0 < o
    let blowing := s.supplyFan.state = .starting ∨ s.supplyFan.state = .running
    let kept (holds : Prop) [Decidable holds] (ticks : Nat) (t : Timer) : Timer := if holds then some (t.getD ticks) else none
    (s.frost.stage ≠ .stop → s.frost.blind = false → s.sensors.tX.value = none → cold →
      frostScan s = giveUp { s with frost := { s.frost with
        tLim := L, stage := .reduce, reduction := 40, blind := true, stepTimer := none, clearTimer := none,
        stopTimer := none, thawTimer := none, preheater := false } }) ∧
    (s.sensors.tX.value = none → ¬ cold → s.frost.blind = false → s.frost.stage ≠ .stop →
      frostScan s = { s with frost := { s.frost with tLim := L, clearTimer := none, stopTimer := none } }) ∧
    (∀ x, s.sensors.tX.value = some x → s.frost.stage = .clear →
      (cold ∨ x ≤ L + 20 → frostScan s = { s with frost := { s.frost with
        tLim := L, stage := .watch, reduction := 0, blind := false, stepTimer := none, clearTimer := none,
        stopTimer := none, thawTimer := none, preheater := false } }) ∧
      (¬ cold → L + 20 < x →
        frostScan s = { s with frost := { s.frost with tLim := L, clearTimer := none, stopTimer := none } })) ∧
    (∀ x, s.sensors.tX.value = some x → s.frost.stage = .watch →
      (x < L → s.own.eligible = false → frostScan s = { s with frost := { s.frost with
        tLim := L, stage := .reduce, reduction := 10, stepTimer := some (seconds 60), clearTimer := none,
        stopTimer := none } }) ∧
      (x < L → s.own.eligible = true → blowing → frostScan s = { s with frost := { s.frost with
        tLim := L, stage := .preheat, reduction := 10, stepTimer := some (seconds 60), clearTimer := none,
        stopTimer := none, preheatOn := 0 } }) ∧
      (x < L → s.own.eligible = true → ¬ blowing → frostScan s = giveUp { s with frost := { s.frost with
        tLim := L, stage := .reduce, reduction := 10, stepTimer := some (seconds 60), clearTimer := none,
        stopTimer := none } }) ∧
      (L ≤ x → mild → L + 30 < x → frostScan s = { s with frost := { s.frost with
        tLim := L, clearTimer := some (s.frost.clearTimer.getD (seconds 300)), stopTimer := none } }) ∧
      (L ≤ x → ¬ mild ∨ x ≤ L + 30 →
        frostScan s = { s with frost := { s.frost with tLim := L, clearTimer := none, stopTimer := none } })) ∧
    (∀ x, s.sensors.tX.value = some x → s.frost.stage = .reduce ∨ s.frost.stage = .preheat → s.frost.blind = false →
      (s.frost.stage = .reduce → frostScan s = { s with frost := { s.frost with
        tLim := L, clearTimer := none
        stopTimer := kept (s.frost.reduction = 60 ∧ x < L - 30) (seconds 600) s.frost.stopTimer } }) ∧
      (s.frost.stage = .preheat →
        ((frostScan s).frost = { s.frost with
          tLim := L, clearTimer := (frostScan s).frost.clearTimer
          stopTimer := kept (s.frost.reduction = 60 ∧ x < L - 30) (seconds 600) s.frost.stopTimer }) ∧
        (mild → L + 30 ≤ x → (frostScan s).frost.clearTimer = some (s.frost.clearTimer.getD (seconds 300))) ∧
        (¬ mild ∨ x < L + 30 → (frostScan s).frost.clearTimer = none) ∧
        frostScan s = { s with frost := (frostScan s).frost })) ∧
    (s.frost.stage = .reduce → s.frost.blind = true →
      (s.sensors.tX.value = none →
        frostScan s = { s with frost := { s.frost with tLim := L, clearTimer := none, stopTimer := none } }) ∧
      (∀ x, s.sensors.tX.value = some x → s.own.eligible = false → frostScan s = { s with frost := { s.frost with
        tLim := L, blind := false, stepTimer := some (seconds 60), clearTimer := none, stopTimer := none } }) ∧
      (∀ x, s.sensors.tX.value = some x → s.own.eligible = true → blowing → frostScan s = { s with frost := { s.frost with
        tLim := L, stage := .preheat, blind := false, stepTimer := some (seconds 60), clearTimer := none, stopTimer := none,
        preheatOn := 0 } }) ∧
      (∀ x, s.sensors.tX.value = some x → s.own.eligible = true → ¬ blowing → frostScan s = giveUp { s with
        frost := { s.frost with
          tLim := L, blind := false, stepTimer := some (seconds 60), clearTimer := none, stopTimer := none } })))

/-- A humidity minute that the sample x completes, from the monitor h to the monitor g: the floor of the mean of thirty samples
enters the ring, the accumulator empties, and the state is judged (R141 to R145). -/
def Sys2Proof.Machine.minuteJudged (terms : Terms) (h : Humid) (x : Nat) (g : Humid) : Prop :=
  let newest := (h.sum + x) / 30
  let ring := (newest :: h.ring).take 10
  g.sum = 0 ∧ g.count = 0 ∧ g.ring = ring ∧
  (h.state = .idle → h.frostStop = false →
    (rises ring = true ∨ terms.humidUpper ≤ newest → g.state = .boost ∧ g.boostMinutes = 0) ∧
    (rises ring = false → newest < terms.humidUpper → g.state = .idle)) ∧
  (h.state = .idle → h.frostStop = true → g.state = .idle) ∧
  (h.state = .boost →
    (h.boostMinutes + 1 < 10 → g.state = .boost ∧ g.boostMinutes = h.boostMinutes + 1) ∧
    (10 ≤ h.boostMinutes + 1 → h.boostMinutes + 1 < 60 → newest ≤ terms.humidLower → rises ring = false →
      g.state = .idle ∧ g.boostMinutes = 0) ∧
    (10 ≤ h.boostMinutes + 1 → h.boostMinutes + 1 < 60 → terms.humidLower < newest ∨ rises ring = true →
      g.state = .boost ∧ g.boostMinutes = h.boostMinutes + 1) ∧
    (60 ≤ h.boostMinutes + 1 → g.state = .rest ∧ g.boostMinutes = 0 ∧ g.restMinutes = 0)) ∧
  (h.state = .rest →
    (h.restMinutes + 1 < 30 → g.state = .rest ∧ g.restMinutes = h.restMinutes + 1) ∧
    (30 ≤ h.restMinutes + 1 → g.state = .idle ∧ g.restMinutes = 0))

/-- The humidity monitor and the filter unit at a scan (R140, R141, R146, R160). -/
def Sys2Proof.Machine.othersAtScan : Prop :=
  (∀ s : State,
     (∀ h : Nat, s.sensors.hE.value = some (h : Int) → s.humid.count < 29 →
       humidScan s = { s with humid := { s.humid with sum := s.humid.sum + h, count := s.humid.count + 1 } }) ∧
     (∀ h : Nat, s.sensors.hE.value = some (h : Int) → 29 ≤ s.humid.count →
       humidScan s = { s with humid := (humidScan s).humid } ∧
       minuteJudged s.join.terms s.humid h (humidScan s).humid ∧
       (humidScan s).humid.frostStop = s.humid.frostStop) ∧
     (s.sensors.hE.state = .invalid → humidScan s = { s with humid := { s.humid with
       sum := 0, count := 0, ring := [], state := .idle, boostMinutes := 0, restMinutes := 0 } }) ∧
     (s.sensors.hE.state = .starting → humidScan s = { s with humid := { s.humid with sum := 0, count := 0 } })) ∧
  (∀ s : State,
     (s.join.membership = .joined → spoiledByScan s →
       trimScan s = { s with filters := { s.filters with spoiled := true } }) ∧
     (s.join.membership ≠ .joined ∨ ¬ spoiledByScan s → trimScan s = s)) ∧
  (∀ (s : State) (o u e x h : Conversion), s.power = .running → s.sensors.scanTimer.isSome = true →
     let taken := { s with sensors := s.sensors.take o u e x h }
     let lost : State := if anyLost s.sensors taken.sensors then raise .sensorInvalid taken else taken
     exec (.scan o u e x h) s = .next (settle (trimScan (humidScan (frostScan lost)))))

/-- A scan updates every channel by the table of R177 and raises SENSOR_INVALID for each that enters INVALID (R175, R178).
A scan that the frost guard takes forms T_lim as the frost base limit plus the humidity lift of that scan's reading; the
values of the rule's table; a scan it does not take leaves T_lim (R93, R94). At a scan it takes, the frost guard judges its
continuity timers, BLIND and the stage (R96 to R99, R102, R111, R112), and where it enters REDUCE or leaves BLIND with the
eligibility already set it goes to PREHEAT or gives up the place (R100; log 29); the humidity monitor takes its sample, the
thirtieth completing a humidity minute with its judgement (R141 to R145), or loses its channel (R140, R146); in JOINED the filter unit spoils its trim period (R160). SCAN is taken whenever the scan timer runs,
whatever it still has to run (log 2), and the order of the three is the model's (log 6): its choices. -/
def Obligations.ScanUpdatesChannelsAndLimit : Prop :=
  frostAtScan ∧ othersAtScan ∧
  ((∀ (s : State) (o u e x h : Conversion), s.power = .running → s.sensors.scanTimer.isSome = true →
     ∃ t, exec (.scan o u e x h) s = .next t ∧ t.sensors = s.sensors.take o u e x h ∧
       (anyLost s.sensors t.sensors = true → raised .sensorInvalid t = true) ∧
       (anyLost s.sensors t.sensors = true ↔
         (s.sensors.tO.state ≠ .invalid ∧ t.sensors.tO.state = .invalid) ∨
         (s.sensors.tS.state ≠ .invalid ∧ t.sensors.tS.state = .invalid) ∨
         (s.sensors.tE.state ≠ .invalid ∧ t.sensors.tE.state = .invalid) ∨
         (s.sensors.tX.state ≠ .invalid ∧ t.sensors.tX.state = .invalid) ∨
         (s.sensors.hE.state ≠ .invalid ∧ t.sensors.hE.state = .invalid)) ∧
       t.line = s.line ∧ t.peers = s.peers ∧ t.join = s.join ∧ t.mode = s.mode ∧ t.queue = s.queue ∧ t.clock = s.clock ∧
       t.nv = s.nv ∧ t.panel = s.panel) ∧
   (∀ (c : Channel) (v : Int),
     (c.state = .starting → c.good = 0 → c.take (some v) = { c with bad := 0, good := 1 }) ∧
     (c.state = .starting → c.good = 1 → c.take (some v) = { state := .valid, reading := some v, bad := 0, good := 0 }) ∧
     (c.state = .starting → c.bad < 2 → c.take none = { c with good := 0, bad := c.bad + 1 }) ∧
     (c.state = .starting → c.bad = 2 → c.take none = { state := .invalid, reading := none, bad := 0, good := 0 }) ∧
     (c.state = .valid → c.take (some v) = { c with reading := some v, bad := 0 }) ∧
     (c.state = .valid → c.bad < 2 → c.take none = { c with bad := c.bad + 1 }) ∧
     (c.state = .valid → c.bad = 2 → c.take none = { state := .invalid, reading := none, bad := 0, good := 0 }) ∧
     (c.state = .invalid → c.good = 0 → c.take (some v) = { c with good := 1 }) ∧
     (c.state = .invalid → c.good = 1 → c.take (some v) = { state := .valid, reading := some v, bad := 0, good := 0 }) ∧
     (c.state = .invalid → c.take none = { c with good := 0 }))) ∧
  ((∀ (s : State) (o u e x h : Conversion), s.power = .running → s.sensors.scanTimer.isSome = true →
     ∃ t, exec (.scan o u e x h) s = .next t ∧
       t.frost.tLim = (if s.join.membership = .joined ∧ baseMode s.mode ≠ .off ∧ s.frost.stage ≠ .stop then
         s.join.terms.frostBase + humidLift t.sensors.hE.value else s.frost.tLim)) ∧
   humidLift none = 30 ∧ (∀ h : Int, h ≤ 40 → humidLift (some h) = 0) ∧
   (∀ h : Int, 40 < h → h ≤ 100 → humidLift (some h) = 5 * ((h - 40) / 10)) ∧
   (∀ h : Option Int, humidLift h ≤ 30) ∧
   humidLift (some 49) = 0 ∧ humidLift (some 50) = 5 ∧ humidLift (some 65) = 10 ∧ humidLift (some 80) = 20 ∧
   humidLift (some 99) = 25 ∧ humidLift (some 100) = 30)

/-- The step timer's expiry with T_x not VALID: the reduction stays and the timer starts again (R99, R101). -/
def Sys2Proof.Machine.stepUnread : Prop :=
  ∀ s : State, s.power = .running → s.frost.stepTimer.isSome = true → s.sensors.tX.state ≠ .valid →
    s.frost.stage = .reduce ∨ s.frost.stage = .preheat →
    exec .stepTimerExpires s = .next (settle { s with frost := { s.frost with stepTimer := some (seconds 60) } })

/-- A step that lowers the reduction to 0 in REDUCE: WATCH, and the place given up (R99, R108). -/
def Sys2Proof.Machine.stepGivesUp : Prop :=
  ∀ (s : State) (x : Int), s.power = .running → s.frost.stepTimer.isSome = true → s.sensors.tX.state = .valid →
    s.sensors.tX.reading = some x → s.frost.stage = .reduce → s.frost.reduction = 10 → s.frost.tLim + 10 ≤ x →
    ∃ t, exec .stepTimerExpires s = .next t ∧
      t = settle (giveUp { s with frost := { s.frost with
        stage := .watch, reduction := 0, blind := false, stepTimer := none, clearTimer := none, stopTimer := none,
        thawTimer := none, preheater := false } }) ∧
      (told s → s.out.take = true → t.out.take = false ∧ t.own.outstanding = false) ∧
      (∀ e, told s → s.out.take = false → sendingTake s = false → ownEntry s = some e → s.join.membership = .joined →
        s.line.condition = .clear ∨ s.line.condition = .doubt → t.out.give = true ∧ t.own.leaving = some e.serial) ∧
      (told s → s.out.take = false → sendingTake s = false → ownEntry s = none →
        t.out.give = s.out.give ∧ t.own.leaving = s.own.leaving)

/-- The step timer judges the reduction from the latest readings: in REDUCE by R99, a step to 0 ending in WATCH; in PREHEAT
by R101; with T_x invalid it is unchanged in both. It starts again from 60 s, and a step down from 60 stops the stop timer. A
step to 0 in REDUCE gives up the own entry or TAKE (R99, R108). The command is taken while the timer runs, whatever it still
has to run: the model's choice (log 2). -/
def Obligations.StepTimerJudgesTheReduction : Prop :=
  stepUnread ∧ stepGivesUp ∧ ∀ (s : State) (x : Int), s.power = .running → s.frost.stepTimer.isSome = true → s.sensors.tX.state = .valid →
    s.sensors.tX.reading = some x →
    let r := s.frost.reduction
    let stepped (r' : Nat) : Frost := { s.frost with
      reduction := r', stepTimer := some (seconds 60),
      stopTimer := if r' < r ∧ r = 60 then none else s.frost.stopTimer }
    (s.frost.stage = .reduce → told s →
      (x < s.frost.tLim → ∃ t, exec .stepTimerExpires s = .next t ∧
        t.frost = { stepped (min 60 (r + 10)) with preheater := false } ∧ sameBase s t) ∧
      (s.frost.tLim + 10 ≤ x → r = 10 → ∃ t, exec .stepTimerExpires s = .next t ∧
        t.frost.stage = .watch ∧ t.frost.reduction = 0 ∧ t.frost.stepTimer = none ∧ t.frost.stopTimer = none ∧
        sameBase s t) ∧
      (s.frost.tLim + 10 ≤ x → 10 < r → ∃ t, exec .stepTimerExpires s = .next t ∧
        t.frost = { stepped (r - 10) with preheater := false } ∧ sameBase s t) ∧
      (s.frost.tLim ≤ x → x < s.frost.tLim + 10 → 0 < r → ∃ t, exec .stepTimerExpires s = .next t ∧
        t.frost = { stepped r with preheater := false } ∧ sameBase s t)) ∧
    (s.frost.stage = .preheat →
      (s.frost.tLim ≤ x → exec .stepTimerExpires s = .next (settle { s with frost := stepped (r - 10) })) ∧
      (x < s.frost.tLim - 10 → seconds 300 ≤ s.frost.preheatOn →
        exec .stepTimerExpires s = .next (settle { s with frost := stepped (min 60 (r + 10)) })) ∧
      (x < s.frost.tLim → s.frost.tLim - 10 ≤ x ∨ s.frost.preheatOn < seconds 300 →
        exec .stepTimerExpires s = .next (settle { s with frost := stepped r })))

/-- The clear timer takes WATCH to CLEAR and PREHEAT to WATCH; the stop timer takes REDUCE or PREHEAT to STOP with
FROST_STOP and 15 minutes of thaw; the thaw ends in CLEAR, BLIND or WATCH; the re-take wait ends (R98, R102, R105, R106,
R109). Each command is taken while its timer runs, whatever it still has to run: the model's choice (log 2). -/
def Obligations.FrostTimersMoveTheStage : Prop :=
  ∀ s : State, s.power = .running →
    (s.frost.clearTimer.isSome = true → s.frost.stage = .watch → ∃ t, exec .clearTimerExpires s = .next t ∧
      t.frost.stage = .clear ∧ t.frost.reduction = 0 ∧ t.frost.clearTimer = none ∧ sameBase s t) ∧
    (s.frost.clearTimer.isSome = true → s.frost.stage = .preheat → ∃ t, exec .clearTimerExpires s = .next t ∧
      t.frost.stage = .watch ∧ t.frost.reduction = 0 ∧ t.frost.preheater = false ∧ t.frost.stepTimer = none ∧
      t.frost.stopTimer = none ∧ sameBase s t) ∧
    (s.frost.stopTimer.isSome = true → s.frost.stage = .reduce ∨ s.frost.stage = .preheat →
      ∃ t, exec .stopTimerExpires s = .next t ∧ t.frost.stage = .stop ∧ t.frost.reduction = s.frost.reduction ∧
        t.frost.preheater = false ∧ t.frost.stepTimer = none ∧ t.frost.clearTimer = none ∧ t.frost.stopTimer = none ∧
        t.frost.thawTimer = some (seconds 900) ∧ raised .frostStop t = true ∧ t.humid.state = .idle ∧ sameBase s t) ∧
    (s.frost.thawTimer.isSome = true → s.frost.stage = .stop → ∃ t, exec .thawTimerExpires s = .next t ∧ sameBase s t ∧
      (baseMode s.mode = .off → t.frost.stage = .clear ∧ t.frost.reduction = 0) ∧
      (baseMode s.mode ≠ .off → blindHolds s = true →
        t.frost.stage = .reduce ∧ t.frost.blind = true ∧ t.frost.reduction = 40) ∧
      (baseMode s.mode ≠ .off → blindHolds s = false → t.frost.stage = .watch ∧ t.frost.reduction = 0)) ∧
    (s.frost.reTake.isSome = true → ∃ t, exec .reTakeWaitEnds s = .next t ∧ t.frost.reTake = none ∧ sameBase s t) ∧
    (blindHolds s = true ↔ s.sensors.tX.value = none ∧ ∀ o, s.sensors.tO.value = some o → o ≤ -20)

/-! ### Humidity (Chapter 8) -/

/-- A humidity minute enters the floor of thirty samples' mean as the newest of at most ten averages and judges the state:
IDLE to BOOST on rise or high, BOOST by its count and the lower band, REST by its count (R141 to R145). The sixtieth minute
of BOOST ends in REST, the thirtieth of REST in IDLE, each with its counts at 0 (R144, R145). As a command of its own the
minute takes the latest valid reading as its sample (log 28), and the two ends are taken with their counts one short (log
4): the model's readings. -/
def Obligations.HumidityJudged : Prop :=
  ((∀ ring : List Nat, rises ring = true ↔
     ∃ newest middle earlier rest, ring = newest :: middle :: earlier :: rest ∧ 50 ≤ newest ∧ earlier + 5 ≤ newest) ∧
   (∀ (s : State) (x : Nat), s.power = .running → s.sensors.hE.state = .valid → s.sensors.hE.reading = some (x : Int) →
     s.humid.count = 29 → s.frost.stage ≠ .stop →
     ∃ t, exec .humidityMinute s = .next t ∧ sameBase s t ∧ minuteJudged s.join.terms s.humid x t.humid)) ∧
  (∀ s : State, s.power = .running → s.frost.stage ≠ .stop →
     (s.humid.state = .boost → 59 ≤ s.humid.boostMinutes → ∃ t, exec .boostHourEnd s = .next t ∧ sameBase s t ∧
       t.humid = { s.humid with state := .rest, boostMinutes := 0, restMinutes := 0, frostStop := false }) ∧
     (s.humid.state = .rest → 29 ≤ s.humid.restMinutes → ∃ t, exec .restEnd s = .next t ∧ sameBase s t ∧
       t.humid = { s.humid with state := .idle, boostMinutes := 0, restMinutes := 0, frostStop := false }))

/-! ### Filters, trim and the nonvolatile record (Chapter 9) -/

/-- The state of a filter record is the first of R152 that holds, life and group due formed as R152 and R157 say. -/
def Obligations.FilterStateFirstMatch : Prop :=
  ∀ (s : State) (f : Filter),
    let life := f.used * 100 / (s.join.terms.filterLife * 30000)
    let dueReports := ((heldReports s).filter (fun r => r.filterDue)).length
    let group := 85 ≤ life ∧ 2 ≤ presenceCount s ∧ presenceCount s - 1 ≤ 2 * dueReports
    let due := 100 ≤ life ∨ (∃ c, f.clog = some c ∧ 130 ≤ c) ∨ group
    (125 ≤ life → formedState s f = .overdue) ∧
    (life < 125 → f.unknown = true → formedState s f = .unknown) ∧
    (life < 125 → f.unknown = false → due → formedState s f = .due) ∧
    (life < 125 → f.unknown = false → ¬ due → f.reference.isSome = true → formedState s f = .inService) ∧
    (life < 125 → f.unknown = false → ¬ due → f.reference = none → formedState s f = .learning)

/-- The end of a trim period, from the state s to the state t an event leaves (R161), and how the next one begins: spoiled
exactly when a condition of R160 fails at that moment or as the event ends. -/
def Sys2Proof.Machine.periodEnded (s t : State) : Prop :=
  t.filters.period = 0 ∧
  (s.filters.spoiled = true → t.filters.trim = s.filters.trim) ∧
  (∀ o u e x : Int, s.filters.spoiled = false → -32 ≤ s.filters.trim → s.filters.trim ≤ 31 → o ≤ e →
    s.sensors.tO.value = some o → s.sensors.tS.value = some u → s.sensors.tE.value = some e →
    s.sensors.tX.value = some x →
    let X := 100 * ((u - o) - (e - x))
    (3 * (e - o) < X → t.filters.trim = min 31 (s.filters.trim + 1)) ∧
    (X < -3 * (e - o) → t.filters.trim = max (-32) (s.filters.trim - 1)) ∧
    (-3 * (e - o) ≤ X → X ≤ 3 * (e - o) → t.filters.trim = s.filters.trim)) ∧
  t.filters.fromFloor = (s.filters.fromFloor && decide (t.filters.trim = s.filters.trim)) ∧
  (t.filters.spoiled = true ↔ spoiledByEvents s ∨ spoiledByScan s ∨ spoiledByEvents t)

/-- A save requested (R163), from one save state to another with the working record of that moment: in IDLE a write of that
record begins, in WRITING the save is queued behind the write in flight, and in QUEUED it changes nothing. -/
def Sys2Proof.Machine.saveRequested (before after : SaveState) (working : NvContent) : Prop :=
  (before = .idle → after = .writing working) ∧ (∀ c, before = .writing c → after = .queued c) ∧
  (∀ c, before = .queued c → after = .queued c)

/-- What one filter's record takes at the end of an accounting minute, from s to t: a qualifying minute's ratio in the learning
sum or in the hour (R154 to R156), and at the hour mark the clog index, the hour emptied and the reminder (R156, R158). -/
def Sys2Proof.Machine.filterAccounted (s t : State) (d : Side) : Prop :=
  let f := filterOf s d
  let g := filterOf t d
  let fan := fanOf s d
  let qualifies := minuteKept s d = true ∧ fan.state = .running ∧ 0 < fan.measured
  let ratio := min 65535 (fan.duty * 1024 / fan.measured)
  let inHour := qualifies ∧ f.reference.isSome = true
  let hourMark := 59 ≤ s.filters.minuteCount
  let care := g.state = .due ∨ g.state = .overdue ∨ g.state = .unknown
  (qualifies → f.reference = none → f.learnMinutes < 1439 →
    g.learnMinutes = f.learnMinutes + 1 ∧ g.learnSum = f.learnSum + ratio ∧ g.reference = none) ∧
  (qualifies → f.reference = none → 1439 ≤ f.learnMinutes →
    g.learnMinutes = 1440 ∧ g.learnSum = 0 ∧ g.reference = some ((f.learnSum + ratio) / 1440)) ∧
  (¬ qualifies ∨ f.reference.isSome = true →
    g.learnMinutes = f.learnMinutes ∧ g.learnSum = f.learnSum ∧ g.reference = f.reference) ∧
  (¬ hourMark →
    (inHour → g.hourMinutes = f.hourMinutes + 1 ∧ g.hourSum = f.hourSum + ratio) ∧
    (¬ inHour → g.hourMinutes = f.hourMinutes ∧ g.hourSum = f.hourSum) ∧
    g.clog = f.clog ∧ (g.notice = true ↔ f.notice = true ∨ (g.state ≠ f.state ∧ care))) ∧
  (hourMark →
    g.hourMinutes = 0 ∧ g.hourSum = 0 ∧
    (∀ r, f.reference = some r → qualifies → 29 ≤ f.hourMinutes →
      g.clog = some (min 65535 (r * 100 / ((f.hourSum + ratio) / (f.hourMinutes + 1))))) ∧
    (∀ r, f.reference = some r → ¬ qualifies → 30 ≤ f.hourMinutes →
      g.clog = some (min 65535 (r * 100 / (f.hourSum / f.hourMinutes)))) ∧
    (f.hourMinutes < 29 → g.clog = f.clog) ∧
    (f.hourMinutes = 29 → ¬ inHour → g.clog = f.clog) ∧
    (g.notice = true ↔ f.notice = true ∨ care)) ∧
  (f.notice = false → g.notice = true → raised .filterNotice t = true) ∧
  g.state = formedState t g ∧ g.unknown = f.unknown ∧
  (minuteKept t d = true ↔ fan.state = .running ∧ (fanOf t d).state = .running)

/-- The end of an accounting minute adds the target flow of a RUNNING fan to its filter's used count, to 4294967295 at most,
and nothing for a fan in another state; it starts the next minute and counts toward the hour and the trim period (R153,
R156, R160). A qualifying minute adds its ratio to the learning sum while the reference is absent, the 1440th making it, and
to the hour once it is present (R154 to R156); the sixtieth minute is the hour mark, with its clog index, reminder and save
(R156, R158, R163), the fifteenth of a trim period its end (R160, R161). The states are formed at each (R152). A measured
speed of 0 does not qualify, the model's reading (log 20). The command is taken while the minute's timer runs (log 2), and
the save of an hour mark holds the trim from before the adjustment of the same minute (log 24): the model's choices. -/
def Obligations.AccountingMinuteAddsFlow : Prop :=
  ∀ s : State, s.power = .running → s.filters.minuteTimer.isSome = true →
    ∃ t, exec .accountingMinute s = .next t ∧
      t.filters.supply.used = (if s.supplyFan.state = .running then
        min 4294967295 (s.filters.supply.used + s.supplyFan.targetFlow) else s.filters.supply.used) ∧
      t.filters.extract.used = (if s.extractFan.state = .running then
        min 4294967295 (s.filters.extract.used + s.extractFan.targetFlow) else s.filters.extract.used) ∧
      t.filters.minuteTimer = some (seconds 60) ∧
      t.filters.minuteCount = (if 59 ≤ s.filters.minuteCount then 0 else s.filters.minuteCount + 1) ∧
      t.filters.period = (if 14 ≤ s.filters.period then 0 else s.filters.period + 1) ∧
      (∀ d : Side, filterAccounted s t d) ∧
      (59 ≤ s.filters.minuteCount → saveRequested s.filters.save t.filters.save
        { supply := t.filters.supply.saved, extract := t.filters.extract.saved, trim := s.filters.trim }) ∧
      (s.filters.minuteCount < 59 → t.filters.save = s.filters.save) ∧
      (14 ≤ s.filters.period → periodEnded s t) ∧
      (s.filters.period < 14 → t.filters.trim = s.filters.trim ∧ t.filters.fromFloor = s.filters.fromFloor ∧
        (t.filters.spoiled = true ↔ s.filters.spoiled = true ∨ spoiledByEvents t)) ∧
      t.line = s.line ∧ t.peers = s.peers ∧ t.queue = s.queue ∧ t.clock = s.clock ∧ t.mode = s.mode ∧ t.nv = s.nv

/-- The 1440th learning minute makes the reference the floor of the mean ratio (R154, R155); the hour mark forms the clog
index from thirty or more minutes, empties the hour, reminds of every filter that needs care, and asks for a save of the
working record as it then stands (R156, R158, R163). As commands of their own they are taken with their counts one short of the end: the model's reading (log 4). -/
def Obligations.ReferenceAndHourMark : Prop :=
  (∀ (s : State) (d : Side), s.power = .running → (filterOf s d).reference = none → (filterOf s d).learnMinutes = 1439 →
    minuteKept s d = true → (fanOf s d).state = .running → 0 < (fanOf s d).measured →
    ∃ t, exec (.referenceLearnt d) s = .next t ∧
      (filterOf t d).reference = some (((filterOf s d).learnSum
        + min 65535 ((fanOf s d).duty * 1024 / (fanOf s d).measured)) / 1440) ∧
      (filterOf t d).learnMinutes = 1440 ∧ (filterOf t d).learnSum = 0 ∧ (filterOf t d).used = (filterOf s d).used ∧
      t.line = s.line ∧ t.peers = s.peers ∧ t.queue = s.queue ∧ t.clock = s.clock) ∧
  (∀ (s : State) (d : Side), s.power = .running → 59 ≤ s.filters.minuteCount →
    ∃ t, exec .hourMark s = .next t ∧ t.filters.minuteCount = 0 ∧ (filterOf t d).hourMinutes = 0 ∧
      (filterOf t d).hourSum = 0 ∧
      (∀ r, (filterOf s d).reference = some r → 30 ≤ (filterOf s d).hourMinutes →
        (filterOf t d).clog = some (min 65535 (r * 100 / ((filterOf s d).hourSum / (filterOf s d).hourMinutes)))) ∧
      ((filterOf s d).hourMinutes < 30 → (filterOf t d).clog = (filterOf s d).clog) ∧
      ((filterOf t d).state.needsCare = true → (filterOf t d).notice = true) ∧
      saveRequested s.filters.save t.filters.save (workingRecord t) ∧ (filterOf t d).used = (filterOf s d).used ∧
      t.line = s.line ∧ t.peers = s.peers ∧ t.queue = s.queue ∧ t.clock = s.clock ∧ t.nv = s.nv)

/-- A clean trim period moves the trim by one toward X, within −32 to +31; a spoiled one leaves it; a change of trim clears the
trim-from-floor mark; the next period begins spoiled exactly when a condition of R160 fails at that moment (R160, R161). As a
command of its own it is taken with the period at its last minute: the model's reading (log 4). -/
def Obligations.TrimPeriodMovesTheTrim : Prop :=
  ∀ s : State, s.power = .running → 14 ≤ s.filters.period →
    ∃ t, exec .trimPeriodEnd s = .next t ∧ periodEnded s t ∧
      t.line = s.line ∧ t.peers = s.peers ∧ t.queue = s.queue ∧ t.clock = s.clock ∧ t.nv = s.nv ∧
      t.filters.supply = s.filters.supply ∧ t.filters.extract = s.filters.extract

/-- Both filters as the restore leaves them (R152, R158, R164): the state formed from the record, and the notice raised, with
FILTER_NOTICE, exactly when that state is DUE, OVERDUE or UNKNOWN. -/
def Sys2Proof.Machine.formedAtRestore (t : State) : Prop :=
  ∀ d : Side,
    let f := filterOf t d
    f.state = formedState t f ∧ (f.notice = true ↔ f.state = .due ∨ f.state = .overdue ∨ f.state = .unknown) ∧
    (f.notice = true → raised .filterNotice t = true)

/-- A write that ends leaves its content as the record with a good check; a queued one begins from the working record; the
restore gives a good record back, and of a bad one UNKNOWN filters, the trim at its floor, NV_LOST and a save of the working
record (R163, R164); either way it forms both states and raises the notices of those that need care (R152, R158, R164).
NV_WRITE_ENDS with no write in flight leaves the station as it is: the model's choice (log 2). -/
def Obligations.RecordSavedAndRestored : Prop :=
  ∀ s : State, s.power = .running →
    (s.filters.save = .idle → exec .nvWriteEnds s = .next s) ∧
    (∀ c, s.filters.save = .writing c → exec .nvWriteEnds s =
      .next { s with nv := Nv.ofContent c, filters := { s.filters with save := .idle } }) ∧
    (∀ c, s.filters.save = .queued c → exec .nvWriteEnds s =
      .next { s with nv := Nv.ofContent c, filters := { s.filters with save := .writing (workingRecord s) } }) ∧
    (∀ c : NvContent, (Nv.ofContent c).good = true ∧ (Nv.ofContent c).content = c) ∧
    (s.filters.restored = false → s.filters.save = .idle → s.panel.reply = .none →
      (s.nv.good = true → ∃ t, exec .nvRestore s = .next t ∧ t.filters.restored = true ∧
        t.filters.supply.saved = s.nv.content.supply ∧ t.filters.extract.saved = s.nv.content.extract ∧
        t.filters.trim = s.nv.content.trim ∧ t.filters.save = .idle ∧ formedAtRestore t ∧ t.nv = s.nv ∧
        t.line = s.line ∧ t.clock = s.clock) ∧
      (s.nv.good = false → ∃ t, exec .nvRestore s = .next t ∧ t.filters.restored = true ∧ raised .nvLost t = true ∧
        t.filters.supply.saved = { NvFilter.blank with unknown := true } ∧
        t.filters.extract.saved = { NvFilter.blank with unknown := true } ∧
        t.filters.trim = s.join.terms.trimFloor ∧ t.filters.fromFloor = true ∧
        t.filters.save = .writing (workingRecord t) ∧ formedAtRestore t ∧
        (∀ d : Side, (filterOf t d).state = .unknown ∧ (filterOf t d).notice = true) ∧
        t.nv = s.nv ∧ t.line = s.line ∧ t.clock = s.clock))

/-- FILTER_ACK clears the named filter's notice and nothing else; FILTER_RESET makes its record new, restarts the trim at its
floor and asks for a save of the working record as it then stands (R163); the other filter's record stays as it is. Both wait for the restore, which answers the one that
waits, and any other name is refused (R158, R159, R162, R164, R185). -/
def Obligations.FilterRequests : Prop :=
  (∀ (s : State) (b : Byte) (d : Side), portFree s →
    (s.filters.restored = false →
      exec (.filterAck b) s = .next { s with panel := { s.panel with
        phase := .sum, code := 6, length := 1, data := [b], reply := .deferred (.ack b) } } ∧
      exec (.filterReset b) s = .next { s with panel := { s.panel with
        phase := .sum, code := 7, length := 1, data := [b], reply := .deferred (.reset b) } }) ∧
    (s.filters.restored = true → 1 < b.toNat →
      exec (.filterAck b) s = .next { s with panel := answered s.panel 6 [b] .refused [1] } ∧
      exec (.filterReset b) s = .next { s with panel := answered s.panel 7 [b] .refused [1] }) ∧
    (s.filters.restored = true → sideOfByte b = some d → ∃ t, exec (.filterAck b) s = .next t ∧
      filterOf t d = { filterOf s d with notice := false } ∧ (∀ e ≠ d, filterOf t e = filterOf s e) ∧
      t.filters.trim = s.filters.trim ∧ t.filters.fromFloor = s.filters.fromFloor ∧
      t.filters.minuteCount = s.filters.minuteCount ∧ t.filters.period = s.filters.period ∧
      t.filters.save = s.filters.save ∧ t.nv = s.nv ∧ t.panel = answered s.panel 6 [b] .done [] ∧ t.line = s.line ∧
      t.peers = s.peers ∧ t.join = s.join ∧ t.sensors = s.sensors ∧
      t.queue = s.queue ∧ t.clock = s.clock ∧ t.mode = s.mode) ∧
    (s.filters.restored = true → sideOfByte b = some d → ∃ t, exec (.filterReset b) s = .next t ∧
      filterOf t d = { used := 0, unknown := false, reference := none, learnMinutes := 0, learnSum := 0, hourMinutes := 0,
                       hourSum := 0, clog := none, state := .learning, notice := false } ∧
      (∀ e ≠ d, filterOf t e = filterOf s e) ∧
      t.filters.trim = s.join.terms.trimFloor ∧ t.filters.fromFloor = true ∧ t.filters.spoiled = true ∧
      saveRequested s.filters.save t.filters.save (workingRecord t) ∧ t.nv = s.nv ∧
      t.panel = answered s.panel 7 [b] .done [] ∧ t.line = s.line ∧
      t.peers = s.peers ∧ t.join = s.join ∧ t.queue = s.queue ∧ t.clock = s.clock ∧ t.mode = s.mode)) ∧
  (∀ (s : State) (b : Byte) (d : Side), s.power = .running → s.filters.restored = false → s.filters.save = .idle →
    ∃ u, exec .nvRestore { s with panel := { s.panel with reply := .none } } = .next u ∧ u.filters.restored = true ∧
      u.panel = { s.panel with reply := .none } ∧
      (s.panel.reply = .deferred (.ack b) ∨ s.panel.reply = .deferred (.reset b) → 1 < b.toNat →
        ∃ t, exec .nvRestore s = .next t ∧ (∀ e, filterOf t e = filterOf u e) ∧ t.filters.trim = u.filters.trim ∧
        t.filters.save = u.filters.save ∧ t.filters.restored = true ∧
        t.panel = { s.panel with reply := .sending { kind := .refused, code := s.panel.code, data := [1] } }) ∧
      (s.panel.reply = .deferred (.ack b) → sideOfByte b = some d → ∃ t, exec .nvRestore s = .next t ∧
        filterOf t d = { filterOf u d with notice := false } ∧ (∀ e ≠ d, filterOf t e = filterOf u e) ∧
        t.filters.trim = u.filters.trim ∧ t.filters.save = u.filters.save ∧ t.filters.restored = true ∧
        t.panel = { s.panel with reply := .sending { kind := .done, code := s.panel.code, data := [] } }) ∧
      (s.panel.reply = .deferred (.reset b) → sideOfByte b = some d → ∃ t, exec .nvRestore s = .next t ∧
        filterOf t d = { used := 0, unknown := false, reference := none, learnMinutes := 0, learnSum := 0,
                         hourMinutes := 0, hourSum := 0, clog := none, state := .learning, notice := false } ∧
        (∀ e ≠ d, filterOf t e = filterOf u e) ∧ t.filters.trim = s.join.terms.trimFloor ∧
        t.filters.fromFloor = true ∧ saveRequested u.filters.save t.filters.save (workingRecord t) ∧
        t.filters.restored = true ∧
        t.panel = { s.panel with reply := .sending { kind := .done, code := s.panel.code, data := [] } }))

/-! ### Terrace time (Chapter 10) -/

/-- The evaluation of the minute at a time, from s to t: the mode of the highest-indexed matching entry handed over, or nothing
(R60, R172). -/
def Sys2Proof.Machine.minuteEvaluated (s t : State) (time : Nat) : Prop :=
  (∀ m, firedMode s.clock.schedule.toList time = some m → t.mode = { s.mode with scheduled := some m, held := none }) ∧
  (firedMode s.clock.schedule.toList time = none → t.mode = s.mode)

/-- The evaluation at a step or a TIME_SET to a time: the landing minute alone, when it is another (R173). -/
def Sys2Proof.Machine.landingEvaluated (s t : State) (time : Nat) : Prop :=
  (time / 60 ≠ s.clock.time / 60 → minuteEvaluated s t time) ∧ (time / 60 = s.clock.time / 60 → t.mode = s.mode)

/-- The entered minute starts on its whole multiple of 60, Sunday's last followed by Monday's first, and hands over the mode
of the highest-indexed entry that matches, if one does (R166, R172). MINUTE_ENTERED is taken when the oscillator's next advance
enters a minute; behind a step or an accepted TIME_SET, which leave the sub-second count at 32 or 0, the running entry does not
happen (R173). That it changes nothing whenever it is not due is the model's choice (log 14). Once a second a running slew moves one step toward 0,
adding an advance of the sub-second count or withholding one (R169); an added advance that completes a minute enters the next
one like any other. Without a slew nothing moves but the notices. SLEW_SECOND makes one second's slew whenever it comes: the
model's choice (log 15). -/
def Obligations.MinutesAndSlew : Prop :=
  ((∀ s : State, s.power = .running →
     let due := s.clock.withhold = 0 ∧ 63 ≤ s.clock.sub ∧ (s.clock.time + 1) % 60 = 0
     (due → ∃ t, exec .minuteEntered s = .next t ∧
       t.clock = { s.clock with time := (s.clock.time + 1) % 604800, sub := 0 } ∧ minuteEvaluated s t t.clock.time ∧
       t.line = s.line ∧ t.peers = s.peers ∧ t.queue = s.queue ∧ t.join = s.join ∧ t.nv = s.nv ∧ t.panel = s.panel) ∧
     (¬ due → exec .minuteEntered s = .next s) ∧
     (∀ (time sub : Nat), sub < 63 → exec .minuteEntered (setClock time sub s) = .next (setClock time sub s))) ∧
   (∀ (entries : List (Option SchedEntry)) (e : SchedEntry) (after : List (Option SchedEntry)) (time : Nat),
     e.fires time = true → (∀ x, some x ∈ after → x.fires time = false) →
     firedMode (entries ++ some e :: after) time = some e.mode) ∧
   (∀ (entries : List (Option SchedEntry)) (time : Nat), (∀ x, some x ∈ entries → x.fires time = false) →
     firedMode entries time = none) ∧
   (∀ (e : SchedEntry) (time : Nat), e.fires time = true ↔
     e.days.getLsbD (time / 86400) = true ∧ (e.hourOn = false ∨ e.hour = time % 86400 / 3600) ∧
     (e.minuteOn = false ∨ e.minute = time % 3600 / 60))) ∧
  (∀ s : State, s.power = .running →
     (0 < s.clock.slew → s.clock.sub < 63 → ∃ t, exec .slewSecond s = .next t ∧
       t.clock = { s.clock with sub := s.clock.sub + 1, slew := s.clock.slew - 1 } ∧ t.mode = s.mode ∧ sameBase t { s with clock := t.clock }) ∧
     (0 < s.clock.slew → 63 ≤ s.clock.sub → (s.clock.time + 1) % 60 ≠ 0 → ∃ t, exec .slewSecond s = .next t ∧
       t.clock = { s.clock with time := s.clock.time + 1, sub := 0, slew := s.clock.slew - 1 } ∧ t.mode = s.mode) ∧
     (0 < s.clock.slew → 63 ≤ s.clock.sub → (s.clock.time + 1) % 60 = 0 → ∃ t, exec .slewSecond s = .next t ∧
       t.clock = { s.clock with time := (s.clock.time + 1) % 604800, sub := 0, slew := s.clock.slew - 1 } ∧
       minuteEvaluated s t t.clock.time) ∧
     (s.clock.slew < 0 → ∃ t, exec .slewSecond s = .next t ∧
       t.clock = { s.clock with slew := s.clock.slew + 1, withhold := s.clock.withhold + 1 } ∧ t.mode = s.mode) ∧
     (s.clock.slew = 0 → ∃ t, exec .slewSecond s = .next t ∧ t.clock = s.clock ∧ t.mode = s.mode))

/-- The source's report moves the clock (R168): level, nothing; one or two seconds off, a slew of 64 sub-counts a second,
unless one runs; farther off, a step to the reported time at sub-second 32 with the slew ended, which evaluates the minute it
lands in when that is another (R172, R173). A report of another station moves it not, and nothing but a step evaluates. -/
def Obligations.SourceReportMovesTheClock : Prop :=
  (∀ (s : State) (j : Station) (p : StatusBytes) (r : Report), s.power = .running → canReceive s = true →
    ownNumber s ≠ some j → decodeStatus p = some r →
    let d := timeDifference r.time s.clock.time
    ∃ t, exec (.statusTaken j p) s = .next t ∧
      (t.clock.source ≠ some j → t.clock = { s.clock with source := t.clock.source }) ∧
      (t.clock.source = some j → d = 0 → t.clock = { s.clock with source := some j }) ∧
      (t.clock.source = some j → d ≠ 0 → -2 ≤ d → d ≤ 2 → s.clock.slew = 0 →
        t.clock = { s.clock with source := some j, slew := d * 64 }) ∧
      (t.clock.source = some j → -2 ≤ d → d ≤ 2 → s.clock.slew ≠ 0 → t.clock = { s.clock with source := some j }) ∧
      (t.clock.source = some j → d < -2 ∨ 2 < d →
        t.clock = { s.clock with source := some j, time := r.time, sub := 32, slew := 0, withhold := 0 } ∧
        landingEvaluated s t r.time) ∧
      (t.clock.source ≠ some j ∨ (-2 ≤ d ∧ d ≤ 2) → t.mode = s.mode)) ∧
  (∀ reported own : Nat, reported < 604800 → own < 604800 →
    -302400 ≤ timeDifference reported own ∧ timeDifference reported own ≤ 302399 ∧
    (timeDifference reported own - ((reported : Int) - own)) % 604800 = 0)

/-- TIME_SET (R170): above 604799 refused for range, with a source refused as not the source, and else the clock stands at the
given second, its sub-second count and slew 0, the landing minute evaluated when it is another (R173).
SCHEDULE_WRITE replaces the named entry whole, or refuses an index above 7 or fields out of range; SCHEDULE_READ answers
the entry as it stands (R171, R191). The bits of a valid entry to which R191 gives no meaning are not read (log 39) and are
sent as 0 (log 40): the model's choices. -/
def Obligations.ClockRequests : Prop :=
  (∀ (s : State) (time : BitVec 24), portFree s →
     (604799 < time.toNat →
       exec (.timeSet time) s = .next { s with panel := answered s.panel 3 (le24 time.toNat) .refused [1] }) ∧
     (time.toNat ≤ 604799 → s.clock.source.isSome = true →
       exec (.timeSet time) s = .next { s with panel := answered s.panel 3 (le24 time.toNat) .refused [3] }) ∧
     (time.toNat ≤ 604799 → s.clock.source = none → ∃ t, exec (.timeSet time) s = .next t ∧
       t.clock.time = time.toNat ∧ t.clock.sub = 0 ∧ t.clock.slew = 0 ∧ t.clock.schedule = s.clock.schedule ∧
       t.panel = answered s.panel 3 (le24 time.toNat) .done [] ∧
       landingEvaluated s t time.toNat ∧
       t.line = s.line ∧ t.queue = s.queue ∧ t.peers = s.peers ∧ t.join = s.join)) ∧
  (∀ (s : State) (index : Byte) (e : EntryBytes), portFree s →
     (∀ (h : index.toNat < 8) (x : Option SchedEntry), decodeEntry e = some x →
       exec (.scheduleWrite index e) s = .next { s with
         clock := { s.clock with schedule := s.clock.schedule.set index.toNat x h }
         panel := answered s.panel 4 (index :: entryList e) .done [] }) ∧
     (8 ≤ index.toNat ∨ decodeEntry e = none →
       exec (.scheduleWrite index e) s = .next { s with
         panel := answered s.panel 4 (index :: entryList e) .refused [1] }) ∧
     (∀ h : index.toNat < 8, exec (.scheduleRead index) s = .next { s with
       panel := answered s.panel 5 [index] .done (index :: entryList (encodeEntry s.clock.schedule[index.toNat])) }) ∧
     (8 ≤ index.toNat →
       exec (.scheduleRead index) s = .next { s with panel := answered s.panel 5 [index] .refused [1] }))

/-! ### Panel port (Chapter 12) -/

/-- The number that the given count of bytes gives from place i of a message on, least significant byte first (R183). -/
def Sys2Proof.Machine.numberAt (bytes : List Byte) : Nat → Nat → Nat
  | _, 0 => 0
  | i, count + 1 => (bytes.getD i 0).toNat + 256 * numberAt bytes (i + 1) count

/-- The remaining time of a timer in whole seconds, rounded up, 0 while it is stopped. -/
def Sys2Proof.Machine.secondsShown (t : Timer) : Nat :=
  match t with
  | none => 0
  | some n => (n + 63) / 64

/-- The eight bytes of a fan from place i of the snapshot on (R192). -/
def Sys2Proof.Machine.fanShown (bytes : List Byte) (i : Nat) (f : Fan) : Prop :=
  numberAt bytes i 1 = fanStateCode f.state ∧ numberAt bytes (i + 1) 1 = f.duty % 256 ∧
  numberAt bytes (i + 2) 2 = f.measured % 65536 ∧ numberAt bytes (i + 4) 1 = f.attempts % 256 ∧
  numberAt bytes (i + 5) 1 = f.targetFlow % 256 ∧ numberAt bytes (i + 6) 2 = f.targetSpeed % 65536

/-- The twelve bytes of a filter from place i of the snapshot on (R192). -/
def Sys2Proof.Machine.filterShown (bytes : List Byte) (i : Nat) (x : Terms) (f : Filter) : Prop :=
  let flags := bytes.getD (i + 1) 0
  numberAt bytes i 1 = filterCode f.state ∧
  flags.getLsbD 0 = f.notice ∧ flags.getLsbD 1 = f.reference.isSome ∧ flags.getLsbD 2 = f.clog.isSome ∧
  flags.toNat < 8 ∧ numberAt bytes (i + 2) 2 = min 65535 (f.used * 100 / (x.filterLife * 30000)) ∧
  numberAt bytes (i + 4) 4 = f.used % 4294967296 ∧ numberAt bytes (i + 8) 2 = f.learnMinutes % 65536 ∧
  numberAt bytes (i + 10) 2 = f.clog.getD 0 % 65536

/-- The three bytes of a channel from place i of the snapshot on (R192). -/
def Sys2Proof.Machine.channelShown (bytes : List Byte) (i : Nat) (c : Channel) : Prop :=
  numberAt bytes i 1 = channelCode c.state ∧
  numberAt bytes (i + 1) 2 = (BitVec.ofInt 16 (c.reading.getD (-32768))).toNat

/-- The codes of the snapshot's fields (R192), and of the presence that PEER_READ answers (R191). -/
def Sys2Proof.Machine.snapshotCodes : Prop :=
  [Membership.straps, .listen, .joined].map membershipCode = [0, 1, 2] ∧
  [LineCondition.clear, .doubt, .stuck, .muted].map conditionCode = [0, 1, 2, 3] ∧
  [MutedCause.none, .driverFault, .duplicate].map causeCode = [0, 1, 2] ∧
  [none, some BaseMode.normal, some .night, some .away, some .off].map heldCode = [0, 1, 2, 3, 4] ∧
  [none, some SchedMode.normal, some .night, some .away].map scheduledCode = [0, 1, 2, 3] ∧
  [FanState.stopped, .starting, .running, .stalled, .failed].map fanStateCode = [0, 1, 2, 3, 4] ∧
  [HumidState.idle, .boost, .rest].map humidCode = [0, 1, 2] ∧
  [FilterState.learning, .inService, .due, .overdue, .unknown].map filterCode = [0, 1, 2, 3, 4] ∧
  [ChannelState.starting, .valid, .invalid].map channelCode = [0, 1, 2] ∧
  [Presence.absent, .present, .stale].map presenceCode = [0, 1, 2] ∧
  [LampLevel.off, .blinking, .steady].map lampCode = [0, 1, 2]

/-- Every byte of the table of R192, in its order. -/
def Sys2Proof.Machine.snapshotLaidOut (s : State) : Prop :=
  let b := snapshot s
  let flags := b.getD 1 0
  b.length = 97 ∧ numberAt b 0 1 = membershipCode s.join.membership ∧
  (flags.getLsbD 0 = s.join.straps.isSome ∧ flags.getLsbD 1 = s.join.querySent ∧ flags.getLsbD 2 = s.join.skew ∧
   flags.getLsbD 3 = s.plan.curbed ∧ flags.getLsbD 4 = s.frost.preheater ∧ flags.getLsbD 5 = s.own.eligible ∧
   flags.getLsbD 6 = s.frost.blind ∧ flags.getLsbD 7 = decide (s.humid.state = .boost)) ∧
  (s.join.straps = none → b.getD 2 0 = 0) ∧
  (∀ x, s.join.straps = some x → numberAt b 2 1 % 16 = x.number.val ∧ (b.getD 2 0).getLsbD 4 = x.pullUp ∧
    (b.getD 2 0).getLsbD 5 = x.override ∧ numberAt b 2 1 / 64 = x.fanClass.val) ∧
  numberAt b 3 1 = conditionCode s.line.condition + 4 * causeCode s.line.cause ∧
  numberAt b 4 1 = s.line.errors % 256 ∧ numberAt b 5 1 = s.line.collisions % 256 ∧ b.getD 6 0 = s.join.terms.version ∧
  numberAt b 7 1 = (match s.join.source with
    | .defaults => 0
    | .panel => 1
    | .heard j => 2 + 16 * j.val) ∧
  numberAt b 8 1 = presenceCount s ∧ numberAt b 9 1 = heldCode s.mode.held + 16 * scheduledCode s.mode.scheduled ∧
  numberAt b 10 1 = modeCode (baseMode s.mode).effective ∧ numberAt b 11 1 = modeCode s.plan.effective ∧
  numberAt b 12 2 = secondsShown s.mode.boost % 65536 ∧ fanShown b 14 s.supplyFan ∧ fanShown b 22 s.extractFan ∧
  numberAt b 30 1 = s.stack.demand % 256 ∧ numberAt b 31 1 = s.stack.cap % 256 ∧ numberAt b 32 1 = s.stack.claim % 256 ∧
  numberAt b 33 2 = s.join.terms.stackLimit / presenceCount s % 65536 ∧
  numberAt b 35 2 = (BitVec.ofInt 16 ((s.join.terms.stackLimit : Int) - ((heldReports s).map Report.claim).sum)).toNat ∧
  numberAt b 37 1 = s.stack.backoff % 256 ∧ numberAt b 38 1 = stageCode s.frost.stage ∧
  numberAt b 39 1 = s.frost.reduction % 256 ∧ b.getD 40 0 = BitVec.ofInt 8 s.frost.tLim ∧
  numberAt b 41 1 = secondsShown s.frost.reTake % 256 ∧ numberAt b 42 1 = humidCode s.humid.state ∧
  numberAt b 43 1 = (match s.humid.state with
    | .idle => 0
    | .boost => s.humid.boostMinutes % 256
    | .rest => s.humid.restMinutes % 256) ∧
  numberAt b 44 1 = s.humid.ring.length % 256 ∧ numberAt b 45 1 = s.humid.ring.headD 255 % 256 ∧
  filterShown b 46 s.join.terms s.filters.supply ∧ filterShown b 58 s.join.terms s.filters.extract ∧
  b.getD 70 0 = BitVec.ofInt 8 s.filters.trim ∧
  numberAt b 71 1 = (match s.filters.save with
    | .idle => 0
    | .writing _ => 1
    | .queued _ => 2) ∧
  numberAt b 72 3 = s.clock.time % 16777216 ∧ numberAt b 75 1 = s.clock.sub % 256 ∧
  numberAt b 76 2 = (BitVec.ofInt 16 s.clock.slew).toNat ∧
  numberAt b 78 1 = (match s.clock.source with
    | none => 255
    | some j => j.val) ∧
  channelShown b 79 s.sensors.tO ∧ channelShown b 82 s.sensors.tS ∧ channelShown b 85 s.sensors.tE ∧
  channelShown b 88 s.sensors.tX ∧ channelShown b 91 s.sensors.hE ∧ numberAt b 94 1 = lampCode s.lamp.level ∧
  numberAt b 95 2 = s.events.toNat

/-- The reading requests change nothing but the port's reply: the 97 bytes of the snapshot, each as the table of R192 gives it,
the queue copy, the tally, and the record of the named station (R24, R41, R137, R186, R191, R192). Bits to which R192 gives no
meaning are sent as 0 (log 40), and a boost's remaining seconds are rounded up (log 19): the model's choices. -/
def Obligations.ReadsChangeOnlyTheReply : Prop :=
  ∀ (s : State) (b : Byte), portFree s →
    exec .statusRead s = .next { s with panel := answered s.panel 1 [] .done (snapshot s) } ∧
    snapshotLaidOut s ∧ snapshotCodes ∧
    exec .queueRead s = .next { s with panel := answered s.panel 10 [] .done (queueData s) } ∧
    (queueData s).length = 9 + 4 * s.queue.entries.length ∧
    exec .tallyRead s = .next { s with panel := answered s.panel 13 [] .done (tallyData s) } ∧
    (tallyData s).length = 5 ∧
    (∀ h : b.toNat < 16, ownNumber s ≠ some ⟨b.toNat, h⟩ → exec (.peerRead b) s = .next { s with
      panel := answered s.panel 9 [b] .done
        ([b, byteOf (presenceCode (s.peers.records.get ⟨b.toNat, h⟩).presence),
          byteOf (s.peers.records.get ⟨b.toNat, h⟩).age, byteOf s.peers.unusable]
          ++ reportBytes (s.peers.records.get ⟨b.toNat, h⟩).fields) }) ∧
    (∀ h : b.toNat < 16, ownNumber s = some ⟨b.toNat, h⟩ → exec (.peerRead b) s = .next { s with
      panel := answered s.panel 9 [b] .done ([b, 3, 0, byteOf s.peers.unusable] ++ reportBytes s.peers.ownReport) }) ∧
    (16 ≤ b.toNat → exec (.peerRead b) s = .next { s with panel := answered s.panel 9 [b] .refused [1] })

/-- The fifteen requests, with the code and the data each is sent with (R186). -/
def Sys2Proof.Machine.requestOf (c : Instr) : Option (Byte × List Byte) :=
  match c with
  | .statusRead => some (1, [])
  | .modeSet mode minutes => some (2, [mode, minutes])
  | .timeSet time => some (3, le24 time.toNat)
  | .scheduleWrite index entry => some (4, index :: entryList entry)
  | .scheduleRead index => some (5, [index])
  | .filterAck b => some (6, [b])
  | .filterReset b => some (7, [b])
  | .fanClear b => some (8, [b])
  | .peerRead b => some (9, [b])
  | .queueRead => some (10, [])
  | .termsSet p => some (11, termsList p)
  | .lineTest seed count => some (12, [seed, count])
  | .tallyRead => some (13, [])
  | .eventsClear mask => some (14, le16 mask.toNat)
  | .restart => some (15, [])
  | _ => none

/-- While a reply is owed every request is discarded; while the restart wait runs every request is answered
REFUSED(BUSY_RESTART), a second RESTART included (R184, R185, R187). The codes and data lengths are those of R186. Requests arrive whole: the model's reading (log 25). -/
def Obligations.PortTakesOneRequestAtATime : Prop :=
  (∀ (s : State) (c : Instr) (code : Byte) (data : List Byte), s.power = .running → requestOf c = some (code, data) →
    (s.panel.reply ≠ .none → exec c s = .next s) ∧
    (s.panel.reply = .none → s.panel.restartWait.isSome = true →
      exec c s = .next { s with panel := answered s.panel code data .refused [5] }) ∧
    requestLength code.toNat = some data.length) ∧
  (∀ n : Nat, requestLength n = none ↔ n = 0 ∨ 15 < n)

/-- TERMS_SET is held in LISTEN when usable; LINE_TEST starts a run of the seed and count on a CLEAR line in JOINED;
EVENTS_CLEAR clears the masked flags and answers the set; each refuses as its rule says (R23, R53, R188). That LINE_TEST
judges the count before the line and the membership is the model's choice (log 32), and so is that the flag set is answered in
two bytes, the upper two bits 0 (log 43). -/
def Obligations.TermsTestAndEventRequests : Prop :=
  ∀ (s : State) (p : TermsBytes) (seed count : Byte) (mask : BitVec 16), portFree s →
    (s.join.membership ≠ .listen →
      exec (.termsSet p) s = .next { s with panel := answered s.panel 11 (termsList p) .refused [2] }) ∧
    (s.join.membership = .listen → decodeTerms p = none →
      exec (.termsSet p) s = .next { s with panel := answered s.panel 11 (termsList p) .refused [1] }) ∧
    (∀ x, s.join.membership = .listen → decodeTerms p = some x →
      exec (.termsSet p) s = .next { s with
        join := { s.join with panelSet := some x }, panel := answered s.panel 11 (termsList p) .done [] }) ∧
    (count.toNat < 1 ∨ 8 < count.toNat →
      exec (.lineTest seed count) s = .next { s with panel := answered s.panel 12 [seed, count] .refused [1] }) ∧
    (1 ≤ count.toNat → count.toNat ≤ 8 → s.join.membership ≠ .joined ∨ s.line.condition ≠ .clear →
      exec (.lineTest seed count) s = .next { s with panel := answered s.panel 12 [seed, count] .refused [4] }) ∧
    (1 ≤ count.toNat → count.toNat ≤ 8 → s.join.membership = .joined → s.line.condition = .clear →
      exec (.lineTest seed count) s = .next { s with
        line := { s.line with run := some { seed := seed, remaining := count.toNat }
                              sending := s.line.sending.map (fun f => { f with counted := false }) }
        out := { s.out with test := true }
        panel := answered s.panel 12 [seed, count] .done [] }) ∧
    (16383 < mask.toNat →
      exec (.eventsClear mask) s = .next { s with panel := answered s.panel 14 (le16 mask.toNat) .refused [1] }) ∧
    (mask.toNat ≤ 16383 → ∃ t, exec (.eventsClear mask) s = .next t ∧
      (∀ g : EventFlag, raised g t = (raised g s && !mask.getLsbD g.place)) ∧
      t = { s with events := t.events, panel := answered s.panel 14 (le16 mask.toNat) .done (le16 t.events.toNat) }) ∧
    [EventFlag.stall, .fanFailed, .frostStop, .queueLockout, .holdOverrun, .lineStuck, .lineDoubt, .muted, .termsConflict,
      .termsSkew, .filterNotice, .nvLost, .sensorInvalid, .stackCut].map EventFlag.place = List.range 14

/-- Entry to MUTED during the restart wait (R17, R22, R187): when it withdraws a GIVE, pending or stopped as it was being sent,
the restart takes effect; when there is none to withdraw, the wait goes on. -/
def Sys2Proof.Machine.mutedEndsWait : Prop :=
  (∀ (s : State) (f : Sending), s.power = .running → s.panel.restartWait.isSome = true → s.line.sending = some f →
     ((∃ v, f.content = .give v) ∨ s.out.give = true →
       ∃ t, exec .driverFault s = .next t ∧ t.join.membership = .straps ∧ t.panel.restartWait = none) ∧
     ((∀ v, f.content ≠ .give v) → s.out.give = false →
       ∃ t, exec .driverFault s = .next t ∧ t.line.condition = .muted ∧ t.out = Outgoing.empty ∧
         t.join = s.join ∧ t.panel = s.panel)) ∧
  (∀ (s : State) (own : Station) (c : Instr), s.power = .running → s.panel.restartWait.isSome = true →
     canReceive s = true → ownNumber s = some own → frameFrom own c →
     (s.out.give = true → ∃ t, exec c s = .next t ∧ t.join.membership = .straps ∧ t.panel.restartWait = none) ∧
     (s.out.give = false → ∃ t, exec c s = .next t ∧ t.line.condition = .muted ∧ t.out = Outgoing.empty ∧
       t.join = s.join ∧ t.panel = s.panel))

/-- RESTART with a place to give back on a CLEAR line places the GIVE and starts the wait of 1 s; the restart then takes
effect when the own GIVE completes, when the line withdraws it as it becomes STUCK or MUTED, or when the wait ends. In every
other case it takes effect when the reply has been sent (R56, R187). A restart keeps a FAILED fan, makes FAILED a fan STALLED at five attempts and
STOPPED every other, keeps the attempts, the schedule, the event flags and the nonvolatile record with its writes;
everything else starts as at power-on, the effective mode and the indicator as the fans' states ask (R56, R61, R68, R180,
R187). The filter records, but for their hour and their notices, and the trim stand until the restore (log 9),
and the wait's end is taken while it runs (log 2): the model's choices. -/
def Obligations.RestartRule : Prop :=
  (∀ s : State,
     (restartGivesUp s = true ↔
       s.join.membership = .joined ∧ (ownEntry s).isSome = true ∧ s.line.condition = .clear) ∧
     (portFree s → restartGivesUp s = false →
       exec .restart s = .next { s with panel := { answered s.panel 15 [] .done [] with restartDue := true } }) ∧
     (∀ e, portFree s → restartGivesUp s = true → ownEntry s = some e → s.out.take = false → sendingTake s = false →
       exec .restart s = .next { s with
         out := { s.out with give := true }, own := { s.own with leaving := some e.serial }
         panel := { answered s.panel 15 [] .done [] with restartWait := some (seconds 1) } }) ∧
     (∀ r, s.power = .running → s.panel.reply = .sending r → s.panel.restartDue = true →
       exec .replySent s = .next (restartNow s)) ∧
     (s.power = .running → s.panel.restartWait.isSome = true → exec .restartWaitExpires s = .next (restartNow s)) ∧
     (∀ (f : Sending) (own : Station) (v : Byte), s.power = .running → s.panel.restartWait.isSome = true →
       ownNumber s = some own → s.line.sending = some f → f.content = .give v →
       ∃ t, exec .ownFrameComplete s = .next t ∧ t.join.membership = .straps ∧ t.panel.restartWait = none) ∧
     (s.power = .running → s.panel.restartWait.isSome = true → s.line.receiverOn = true → s.out.give = true →
       s.line.condition = .clear ∨ s.line.condition = .doubt →
       ∃ t, exec .lineStuck s = .next t ∧ t.join.membership = .straps ∧ t.panel.restartWait = none)) ∧
  mutedEndsWait ∧
  (∀ s : State,
     let t := restartNow s
     t.power = .running ∧ t.line = State.reset.line ∧ t.out = State.reset.out ∧ t.peers = State.reset.peers ∧
     t.join = State.reset.join ∧ t.mode = State.reset.mode ∧ t.stack = State.reset.stack ∧ t.frost = State.reset.frost ∧
     t.queue = State.reset.queue ∧ t.own = State.reset.own ∧ t.humid = State.reset.humid ∧
     t.sensors = State.reset.sensors ∧ t.panel = State.reset.panel ∧
     t.clock = { State.reset.clock with schedule := s.clock.schedule } ∧
     t.nv = s.nv ∧ t.torn = s.torn ∧ t.pending = s.pending ∧
     t.filters = { State.reset.filters with
       supply := { s.filters.supply with hourMinutes := 0, hourSum := 0, notice := false }
       extract := { s.filters.extract with hourMinutes := 0, hourSum := 0, notice := false }
       trim := s.filters.trim, save := s.filters.save } ∧
     (let failed := t.supplyFan.state = .failed ∨ t.extractFan.state = .failed
      t.plan = { State.reset.plan with effective := if failed then .fanFault else .normal } ∧
      t.lamp = (if failed then { level := .steady, on := true, timer := none } else State.reset.lamp)) ∧
     (∀ g : EventFlag, raised g s = true → raised g t = true) ∧
     (∀ g : EventFlag, g ≠ .fanFailed → raised g t = raised g s) ∧
     (∀ d : Side, fanOf t d = { State.reset.supplyFan with state := (fanOf t d).state, attempts := (fanOf s d).attempts }) ∧
     (∀ d : Side, (fanOf t d).attempts = (fanOf s d).attempts ∧ (fanOf t d).duty = 0 ∧ (fanOf t d).targetFlow = 0) ∧
     (∀ d : Side, (fanOf s d).state = .failed → (fanOf t d).state = .failed) ∧
     (∀ d : Side, (fanOf s d).state = .stalled → (fanOf s d).attempts = 5 →
       (fanOf t d).state = .failed ∧ raised .fanFailed t = true) ∧
     (∀ d : Side, (fanOf s d).state ≠ .failed → (fanOf s d).state ≠ .stalled ∨ (fanOf s d).attempts ≠ 5 →
       (fanOf t d).state = .stopped))

/-- The last byte of a reply returns the port to HUNT; a gap drops a partial request without a reply; a request with a bad
sum or length is answered BAD_FORMAT and an unknown code UNKNOWN_REQUEST, with no other change; a blink half turns the
indicator (R180, R184, R185). A byte whose stop bit is low is discarded as if it had not arrived (R183). Requests arrive
whole (log 25), and the blink half ends whenever the command comes (log 2): the model's choices. -/
def Obligations.PortEvents : Prop :=
  ∀ s : State, s.power = .running →
    let received (bytes : List Byte) : List RxChar := bytes.map (fun b => { byte := b, stopGood := true })
    (∀ r, s.panel.reply = .sending r → s.panel.restartDue = false →
      exec .replySent s = .next { s with panel := { s.panel with
        phase := .hunt, code := 0, length := 0, data := [], reply := .none } }) ∧
    (∀ bytes, s.panel.reply = .none → partialRequest bytes = true →
      exec (.panelAssemblyTimeout (received bytes)) s = .next { s with panel := { s.panel with
        phase := .hunt, code := 0, length := 0, data := [] } }) ∧
    (∀ (code length sum : Byte) (data : List Byte), s.panel.reply = .none → length.toNat ≤ 16 →
      data.length = length.toNat →
      (sumByte (code :: length :: data) ≠ sum →
        exec (.badFormat (received (0xA5 :: code :: length :: data ++ [sum]))) s =
          .next { s with panel := { answered s.panel code data .badFormat [] with length := length } }) ∧
      (sumByte (code :: length :: data) = sum → requestLength code.toNat = none →
        exec (.badFormat (received (0xA5 :: code :: length :: data ++ [sum]))) s =
          .next { s with panel := { answered s.panel code data .unknownRequest [] with length := length } }) ∧
      (∀ n, sumByte (code :: length :: data) = sum → requestLength code.toNat = some n → length.toNat ≠ n →
        exec (.badFormat (received (0xA5 :: code :: length :: data ++ [sum]))) s =
          .next { s with panel := { answered s.panel code data .badFormat [] with length := length } })) ∧
    (∀ code length : Byte, s.panel.reply = .none → 16 < length.toNat →
      exec (.badFormat (received [0xA5, code, length])) s = .next { s with panel := { s.panel with
        phase := .hunt, code := code, length := length, data := []
        reply := .sending { kind := .badFormat, code := code, data := [] } } }) ∧
    (∀ chars : List RxChar,
      exec (.panelAssemblyTimeout chars) s = exec (.panelAssemblyTimeout (chars.filter RxChar.stopGood)) s ∧
      exec (.badFormat chars) s = exec (.badFormat (chars.filter RxChar.stopGood)) s) ∧
    (s.lamp.level = .blinking →
      exec .blinkToggle s = .next { s with lamp := { s.lamp with on := !s.lamp.on, timer := some blinkTicks } })

/-! ### Encodings -/

/-- The bytes of the terrace frames (R189, R190): header, TERMS and STATUS payloads, each field at its place. -/
def Sys2Proof.Machine.framesLaidOut : Prop :=
  (∀ (kind : Nat) (j : Station), headerByte kind j = BitVec.ofNat 8 (16 * kind + j.val)) ∧
  (∀ (v : Byte) (r : Report) (x : Terms),
     (Content.give v).kind = 1 ∧ (Content.take v).kind = 2 ∧ (Content.status r).kind = 3 ∧ Content.termsQuery.kind = 4 ∧
     (Content.termsSet x).kind = 4 ∧ (Content.test v).kind = 5 ∧
     (Content.give v).payload = [v] ∧ (Content.take v).payload = [v] ∧ Content.termsQuery.payload = []) ∧
  (∀ x : Terms, x.usable = true →
     let p := encodeTerms x
     (Content.termsSet x).payload = [p.b0, p.b1, p.b2, p.b3, p.b4, p.b5, p.b6, p.b7, p.b8, p.b9, p.b10, p.b11, p.b12,
       p.b13, p.b14] ∧
     p.b0 = x.version ∧ p.b1.toNat + 256 * p.b2.toNat = x.stackLimit ∧ p.b3.toNat = x.concurrency ∧
     10 * p.b4.toNat = x.holdLimit ∧ p.b5.toInt = x.frostBase ∧ p.b6.toNat = x.imbalance ∧ p.b7.toNat = x.humidUpper ∧
     p.b8.toNat = x.humidLower ∧ p.b9.toNat + 256 * p.b10.toNat = x.filterLife ∧ p.b11.toNat = x.ahead ∧
     p.b12.toNat = x.behind ∧ p.b13.toNat = x.errorThreshold ∧ p.b14.toInt = x.trimFloor) ∧
  (∀ r : Report, r.reduction10 ≤ 6 → r.claim ≤ 255 → r.filterLife ≤ 255 → r.time ≤ 604799 →
     let p := encodeStatus r
     (Content.status r).payload = [p.b0, p.b1, p.b2, p.b3, p.b4, p.b5, p.b6, p.b7, p.b8, p.b9, p.b10, p.b11] ∧
     p.b0.toNat = modeCode r.mode ∧ p.b1.toNat / 16 = stageCode r.stage ∧ p.b1.toNat % 16 = r.reduction10 ∧
     p.b2.toNat = r.claim ∧ p.b3.getLsbD 0 = r.lineNotClear ∧ p.b3.getLsbD 1 = r.backoff ∧ p.b3.getLsbD 2 = r.curbed ∧
     p.b3.getLsbD 3 = r.filterDue ∧ p.b3.getLsbD 4 = r.skew ∧ p.b3.getLsbD 5 = r.entryPresent ∧
     p.b3.getLsbD 6 = r.entryGranted ∧ p.b3.getLsbD 7 = false ∧ p.b4.toNat = copyCode r.copyState ∧
     p.b5 = r.entrySerial ∧ p.b6 = r.n ∧ p.b7.toNat = r.filterLife ∧ p.b8 = r.termsVersion ∧
     p.b9.toNat + 256 * p.b10.toNat + 65536 * p.b11.toNat = r.time) ∧
  ([Mode.off, .frostStop, .fanFault, .boost, .humid, .normal, .night, .away].map modeCode = [0, 1, 2, 3, 4, 5, 6, 7] ∧
   [FrostStage.clear, .watch, .reduce, .preheat, .stop].map stageCode = [0, 1, 2, 3, 4] ∧
   [CopyState.rebuild, .synced, .unsure].map copyCode = [0, 1, 2])

/-- The bytes of the panel's smaller messages (R191): schedule entries, QUEUE_READ and TALLY_READ. The leaving serial byte with
none held is 0 (log 37), and so are the bits to which R191 gives no meaning (log 40): the model's choices. The hold of a
queue entry is the whole seconds passed: the model's reading (log 19). -/
def Sys2Proof.Machine.repliesLaidOut : Prop :=
  (∀ e : SchedEntry, e.hour ≤ 23 → e.minute ≤ 59 →
     let p := encodeEntry (some e)
     entryList p = [p.b0, p.b1, p.b2, p.b3] ∧ p.b0.getLsbD 7 = true ∧
     (∀ i : Fin 7, p.b0.getLsbD i = e.days.getLsbD i) ∧ p.b1.getLsbD 7 = e.hourOn ∧ p.b1.toNat % 32 = e.hour ∧
     p.b2.getLsbD 7 = e.minuteOn ∧ p.b2.toNat % 64 = e.minute ∧
     p.b3 = (match e.mode with
       | .normal => 1
       | .night => 2
       | .away => 3)) ∧
  (encodeEntry none = { b0 := 0, b1 := 0, b2 := 0, b3 := 0 }) ∧
  (∀ s : State, ∃ flags : Byte,
     queueData s = [BitVec.ofNat 8 (copyCode s.queue.state), s.queue.n, flags,
       BitVec.ofNat 8 (match s.queue.state with
         | .rebuild => s.queue.rebuild
         | .synced => 0
         | .unsure => s.queue.confirm),
       BitVec.ofNat 8 (kEff s), s.own.leaving.getD 0, BitVec.ofNat 8 s.queue.stale, BitVec.ofNat 8 s.queue.late,
       BitVec.ofNat 8 s.queue.entries.length] ++ (s.queue.entries.map (entryData s)).flatten ∧
     flags.getLsbD 0 = s.queue.nSet ∧ flags.getLsbD 1 = s.own.outstanding ∧ flags.getLsbD 2 = s.own.eligible ∧
     flags.getLsbD 3 = s.own.leaving.isSome) ∧
  (∀ (s : State) (e : Entry), ∃ first : Byte,
     entryData s e = [first, e.serial, BitVec.ofNat 8 (e.hold / 64), BitVec.ofNat 8 (e.hold / 64 / 256)] ∧
     first.toNat % 16 = e.station.val ∧ first.getLsbD 4 = e.shadow.isSome ∧ first.getLsbD 5 = granted s e.station) ∧
  (∀ s : State, tallyData s =
     [match s.line.tally.sender with
       | none => 255
       | some j => BitVec.ofNat 8 j.val,
      BitVec.ofNat 8 s.line.tally.received, BitVec.ofNat 8 s.line.tally.mismatched,
      match s.line.run with
       | none => 0
       | some r => BitVec.ofNat 8 r.remaining,
      BitVec.ofNat 8 s.line.collisions])

/-- The characters of both lines (R3, R183): a dominant start bit, the eight data bits with the least significant first, 0
dominant and 1 recessive, a recessive stop bit; a recessive start is a glitch and forms none, a dominant stop is bad. A frame
being sent drives the characters of its bytes back to back. -/
def Sys2Proof.Machine.charactersLaidOut : Prop :=
  (∀ b : Byte, (charLevels b)[0] = .dominant ∧ (charLevels b)[9] = .recessive ∧
     (∀ i : Fin 8, (charLevels b)[i.val + 1] = if b.getLsbD i then Level.recessive else Level.dominant) ∧
     receiveChar (charLevels b) = some { byte := b, stopGood := true } ∧
     receiveChar ((charLevels b).set 9 .dominant) = some { byte := b, stopGood := false }) ∧
  (∀ c : CharLevels, c.get 0 = Level.recessive → receiveChar c = none) ∧
  (∀ bytes : List Byte, receiveChars (bytes.map charLevels) = bytes.map (fun b => { byte := b, stopGood := true })) ∧
  (∀ f : Sending, f.levels.length = 10 * f.bytes.length) ∧
  (∀ (f : Sending) (b : Byte) (rest : List Byte), f.bytes = b :: rest →
     f.levels = (charLevels b).toList ++ { f with bytes := rest }.levels)

/-- What the decoders refuse, and how terms compare: an unusable STATUS (R36, R190), a terms set with a field outside its range
(R48, R189), the order of versions (R48), an entry that SCHEDULE_WRITE refuses (R171, R191). The reserved bits of an entry's
hour and minute bytes are not read: the model's choice (log 39). -/
def Sys2Proof.Machine.decodersJudge : Prop :=
  (∀ p : StatusBytes, decodeStatus p = none ↔
     7 < p.b0.toNat ∨ 4 < p.b1.toNat / 16 ∨ 6 < p.b1.toNat % 16 ∨ 2 < p.b4.toNat ∨
     (p.b3.getLsbD 6 = true ∧ p.b3.getLsbD 5 = false) ∨
     604799 < p.b9.toNat + 256 * p.b10.toNat + 65536 * p.b11.toNat) ∧
  (∀ x : Terms, x.usable = true ↔
     x.stackLimit ≤ 4095 ∧ 1 ≤ x.concurrency ∧ x.concurrency ≤ 4 ∧
     60 ≤ x.holdLimit ∧ x.holdLimit ≤ 1800 ∧ x.holdLimit % 10 = 0 ∧ -50 ≤ x.frostBase ∧ x.frostBase ≤ 50 ∧
     x.imbalance ≤ 20 ∧ 40 ≤ x.humidUpper ∧ x.humidUpper ≤ 90 ∧
     30 ≤ x.humidLower ∧ x.humidLower ≤ 85 ∧ x.humidLower + 5 ≤ x.humidUpper ∧
     100 ≤ x.filterLife ∧ x.filterLife ≤ 2000 ∧ 1 ≤ x.ahead ∧ x.ahead ≤ 32 ∧ 1 ≤ x.behind ∧ x.behind ≤ 32 ∧
     1 ≤ x.errorThreshold ∧ x.errorThreshold ≤ 15 ∧ -16 ≤ x.trimFloor ∧ x.trimFloor ≤ 15 ∧
     (x.version = 0 → x = { version := 0, stackLimit := 1200, concurrency := 2, holdLimit := 600, frostBase := 10,
                            imbalance := 10, humidUpper := 70, humidLower := 60, filterLife := 600, ahead := 8, behind := 8,
                            errorThreshold := 8, trimFloor := 0 })) ∧
  (∀ p : TermsBytes, decodeTerms p = none ↔ ¬ (
     p.b1.toNat + 256 * p.b2.toNat ≤ 4095 ∧ 1 ≤ p.b3.toNat ∧ p.b3.toNat ≤ 4 ∧ 6 ≤ p.b4.toNat ∧ p.b4.toNat ≤ 180 ∧
     -50 ≤ p.b5.toInt ∧ p.b5.toInt ≤ 50 ∧ p.b6.toNat ≤ 20 ∧ 40 ≤ p.b7.toNat ∧ p.b7.toNat ≤ 90 ∧
     30 ≤ p.b8.toNat ∧ p.b8.toNat ≤ 85 ∧ p.b8.toNat + 5 ≤ p.b7.toNat ∧
     100 ≤ p.b9.toNat + 256 * p.b10.toNat ∧ p.b9.toNat + 256 * p.b10.toNat ≤ 2000 ∧
     1 ≤ p.b11.toNat ∧ p.b11.toNat ≤ 32 ∧ 1 ≤ p.b12.toNat ∧ p.b12.toNat ≤ 32 ∧ 1 ≤ p.b13.toNat ∧ p.b13.toNat ≤ 15 ∧
     -16 ≤ p.b14.toInt ∧ p.b14.toInt ≤ 15 ∧
     (p.b0 = 0 → p = { b0 := 0, b1 := 0xB0, b2 := 4, b3 := 2, b4 := 60, b5 := 10, b6 := 10, b7 := 70, b8 := 60, b9 := 0x58,
                       b10 := 2, b11 := 8, b12 := 8, b13 := 8, b14 := 0 }))) ∧
  (∀ a b : Byte, newerVersion a b = true ↔ (b = 0 ∧ a ≠ 0) ∨
     (a ≠ 0 ∧ b ≠ 0 ∧ 1 ≤ (a.toNat + 256 - b.toNat) % 256 ∧ (a.toNat + 256 - b.toNat) % 256 ≤ 127)) ∧
  (∀ a b : Terms, a.agrees b = true ↔ { a with version := b.version } = b) ∧
  (∀ e : EntryBytes, decodeEntry e = none ↔ e.b0.getLsbD 7 = true ∧
     (e.b3 = 0 ∨ 3 < e.b3.toNat ∨ (e.b1.getLsbD 7 = true ∧ 24 ≤ e.b1.toNat % 32) ∨
      (e.b2.getLsbD 7 = true ∧ 60 ≤ e.b2.toNat % 64))) ∧
  (∀ e : EntryBytes, decodeEntry e = some none ↔ e.b0.getLsbD 7 = false) ∧
  (∀ (e : EntryBytes) (x : SchedEntry), decodeEntry e = some (some x) →
     (∀ i : Fin 7, x.days.getLsbD i = e.b0.getLsbD i) ∧ x.hourOn = e.b1.getLsbD 7 ∧ x.minuteOn = e.b2.getLsbD 7 ∧
     x.hour = (if x.hourOn then e.b1.toNat % 32 else 0) ∧ x.minute = (if x.minuteOn then e.b2.toNat % 64 else 0) ∧
     e.b3.toNat = (match x.mode with
       | .normal => 1
       | .night => 2
       | .away => 3))

/-- Decoding what is encoded gives back every field at every value the encoding admits: a round report (R190), a usable terms
set (R189), a schedule entry (R191), and from a usable terms payload the payload itself; and each field stands in the byte and
bits the layouts give it (R189, R190, R191), each byte in the bits of its character (R3). The decoders refuse exactly the
reports, terms sets and entries that R36, R48 and R171 refuse, and versions and contents compare as R48 says. What the smaller
messages send where R191 gives no value is the model's choice (log 37, log 40), and so it is that an entry's hour and minute
bytes are read without their reserved bits (log 39); that an entry's hold is sent as the whole seconds passed is the model's
reading (log 19). -/
def Obligations.LayoutsRoundTrip : Prop :=
  (∀ r : Report, r.reduction10 ≤ 6 → r.claim ≤ 255 → r.filterLife ≤ 255 → r.time ≤ 604799 →
    (r.entryGranted = true → r.entryPresent = true) → decodeStatus (encodeStatus r) = some r) ∧
  (∀ x : Terms, x.usable = true → decodeTerms (encodeTerms x) = some x) ∧
  (∀ (p : TermsBytes) (x : Terms), decodeTerms p = some x → encodeTerms x = p) ∧
  (∀ e : SchedEntry, (e.hourOn = true → e.hour ≤ 23) → (e.hourOn = false → e.hour = 0) →
    (e.minuteOn = true → e.minute ≤ 59) → (e.minuteOn = false → e.minute = 0) →
    decodeEntry (encodeEntry (some e)) = some (some e)) ∧
  decodeEntry (encodeEntry none) = some none ∧
  framesLaidOut ∧ repliesLaidOut ∧ charactersLaidOut ∧ decodersJudge

/-! ### What every step keeps -/

/-- The fan rule (R69, R70, R74 to R77) is kept by every step. -/
def Obligations.StepsKeepTheFanRule : Prop := Kept fansRuled

/-- That the claim is the final extract, never above the cap, and that frost STOP means both targets and the claim 0 and the
humidity state IDLE (R66, R83, R106), is kept by every step; and so is that the held cap is the one the table of R82 gives the
held demand, whatever changed: the demand (R83), or a condition of that table with its evaluation (R84, R87). -/
def Obligations.StepsKeepTheClaimAndStopRules : Prop := Kept (fun s => claimRuled s ∧ stopRuled s) ∧ Kept capFormed

/-- That no queue copy holds two entries for one station (R115) is kept by every step; and that in SYNCED and UNSURE every
entry is less than 240 serials back and the copy is in the order of age (R116, R131) is kept by every step. -/
def Obligations.StepsKeepTheQueueRule : Prop := Kept queueRuled ∧ Kept orderRuled

/-- That the indicator is at the level its conditions ask for (R180) is kept by every step.
That the frost guard has been told the eligibility (R135), and that the preheater is on only under the conditions of R110,
is kept by every step. -/
def Obligations.StepsKeepTheOutputRules : Prop :=
  (Kept lampRuled) ∧
  (Kept (fun s => told s ∧ preheaterRuled s))

/-- That terms are usable and that clock, counts, channels, humidity and peer records lie in their ranges (R9, R13, R19, R34, R48,
R139, R165, R177) is kept by every step, and so is that the receiver is not ready in STUCK (R7, R20, R42). -/
def Obligations.StepsKeepTheRanges : Prop :=
  Kept (fun s => termsRuled s ∧ clockRuled s ∧ countsRuled s) ∧ Kept (fun s => sensorsRuled s ∧ humidRuled s) ∧
  Kept peersRuled ∧ Kept receiverRuled

/-- Every kept rule holds right after reset. -/
def Obligations.RulesHoldAtReset : Prop :=
  fansRuled State.reset ∧ told State.reset ∧ preheaterRuled State.reset ∧ claimRuled State.reset ∧ stopRuled State.reset ∧
  queueRuled State.reset ∧ orderRuled State.reset ∧ lampRuled State.reset ∧ clockRuled State.reset ∧ termsRuled State.reset ∧
  countsRuled State.reset ∧ sensorsRuled State.reset ∧ humidRuled State.reset ∧ peersRuled State.reset ∧
  receiverRuled State.reset ∧ capFormed State.reset
end

