-- ==== Sys2Proof/Laws/State.lean ====
section
/-! SUPPORT. Beside State: what each named update leaves in each field, true by rfl, so that no later proof unfolds a record
update. -/

namespace Sys2Proof.Machine

@[simp] theorem raise_power (f : EventFlag) (s : State) : (raise f s).power = s.power := rfl
@[simp] theorem raise_line (f : EventFlag) (s : State) : (raise f s).line = s.line := rfl
@[simp] theorem raise_out (f : EventFlag) (s : State) : (raise f s).out = s.out := rfl
@[simp] theorem raise_peers (f : EventFlag) (s : State) : (raise f s).peers = s.peers := rfl
@[simp] theorem raise_join (f : EventFlag) (s : State) : (raise f s).join = s.join := rfl
@[simp] theorem raise_mode (f : EventFlag) (s : State) : (raise f s).mode = s.mode := rfl
@[simp] theorem raise_plan (f : EventFlag) (s : State) : (raise f s).plan = s.plan := rfl
@[simp] theorem raise_supplyFan (f : EventFlag) (s : State) : (raise f s).supplyFan = s.supplyFan := rfl
@[simp] theorem raise_extractFan (f : EventFlag) (s : State) : (raise f s).extractFan = s.extractFan := rfl
@[simp] theorem raise_stack (f : EventFlag) (s : State) : (raise f s).stack = s.stack := rfl
@[simp] theorem raise_frost (f : EventFlag) (s : State) : (raise f s).frost = s.frost := rfl
@[simp] theorem raise_queue (f : EventFlag) (s : State) : (raise f s).queue = s.queue := rfl
@[simp] theorem raise_own (f : EventFlag) (s : State) : (raise f s).own = s.own := rfl
@[simp] theorem raise_humid (f : EventFlag) (s : State) : (raise f s).humid = s.humid := rfl
@[simp] theorem raise_filters (f : EventFlag) (s : State) : (raise f s).filters = s.filters := rfl
@[simp] theorem raise_nv (f : EventFlag) (s : State) : (raise f s).nv = s.nv := rfl
@[simp] theorem raise_torn (f : EventFlag) (s : State) : (raise f s).torn = s.torn := rfl
@[simp] theorem raise_clock (f : EventFlag) (s : State) : (raise f s).clock = s.clock := rfl
@[simp] theorem raise_sensors (f : EventFlag) (s : State) : (raise f s).sensors = s.sensors := rfl
@[simp] theorem raise_lamp (f : EventFlag) (s : State) : (raise f s).lamp = s.lamp := rfl
@[simp] theorem raise_panel (f : EventFlag) (s : State) : (raise f s).panel = s.panel := rfl
@[simp] theorem raise_pending (f : EventFlag) (s : State) : (raise f s).pending = s.pending := rfl

@[simp] theorem raiseIf_power (c : Bool) (f : EventFlag) (s : State) : (raiseIf c f s).power = s.power := by unfold raiseIf; split <;> rfl
@[simp] theorem raiseIf_line (c : Bool) (f : EventFlag) (s : State) : (raiseIf c f s).line = s.line := by unfold raiseIf; split <;> rfl
@[simp] theorem raiseIf_out (c : Bool) (f : EventFlag) (s : State) : (raiseIf c f s).out = s.out := by unfold raiseIf; split <;> rfl
@[simp] theorem raiseIf_peers (c : Bool) (f : EventFlag) (s : State) : (raiseIf c f s).peers = s.peers := by unfold raiseIf; split <;> rfl
@[simp] theorem raiseIf_join (c : Bool) (f : EventFlag) (s : State) : (raiseIf c f s).join = s.join := by unfold raiseIf; split <;> rfl
@[simp] theorem raiseIf_mode (c : Bool) (f : EventFlag) (s : State) : (raiseIf c f s).mode = s.mode := by unfold raiseIf; split <;> rfl
@[simp] theorem raiseIf_plan (c : Bool) (f : EventFlag) (s : State) : (raiseIf c f s).plan = s.plan := by unfold raiseIf; split <;> rfl
@[simp] theorem raiseIf_supplyFan (c : Bool) (f : EventFlag) (s : State) : (raiseIf c f s).supplyFan = s.supplyFan := by unfold raiseIf; split <;> rfl
@[simp] theorem raiseIf_extractFan (c : Bool) (f : EventFlag) (s : State) : (raiseIf c f s).extractFan = s.extractFan := by unfold raiseIf; split <;> rfl
@[simp] theorem raiseIf_stack (c : Bool) (f : EventFlag) (s : State) : (raiseIf c f s).stack = s.stack := by unfold raiseIf; split <;> rfl
@[simp] theorem raiseIf_frost (c : Bool) (f : EventFlag) (s : State) : (raiseIf c f s).frost = s.frost := by unfold raiseIf; split <;> rfl
@[simp] theorem raiseIf_queue (c : Bool) (f : EventFlag) (s : State) : (raiseIf c f s).queue = s.queue := by unfold raiseIf; split <;> rfl
@[simp] theorem raiseIf_own (c : Bool) (f : EventFlag) (s : State) : (raiseIf c f s).own = s.own := by unfold raiseIf; split <;> rfl
@[simp] theorem raiseIf_humid (c : Bool) (f : EventFlag) (s : State) : (raiseIf c f s).humid = s.humid := by unfold raiseIf; split <;> rfl
@[simp] theorem raiseIf_filters (c : Bool) (f : EventFlag) (s : State) : (raiseIf c f s).filters = s.filters := by unfold raiseIf; split <;> rfl
@[simp] theorem raiseIf_nv (c : Bool) (f : EventFlag) (s : State) : (raiseIf c f s).nv = s.nv := by unfold raiseIf; split <;> rfl
@[simp] theorem raiseIf_torn (c : Bool) (f : EventFlag) (s : State) : (raiseIf c f s).torn = s.torn := by unfold raiseIf; split <;> rfl
@[simp] theorem raiseIf_clock (c : Bool) (f : EventFlag) (s : State) : (raiseIf c f s).clock = s.clock := by unfold raiseIf; split <;> rfl
@[simp] theorem raiseIf_sensors (c : Bool) (f : EventFlag) (s : State) : (raiseIf c f s).sensors = s.sensors := by unfold raiseIf; split <;> rfl
@[simp] theorem raiseIf_lamp (c : Bool) (f : EventFlag) (s : State) : (raiseIf c f s).lamp = s.lamp := by unfold raiseIf; split <;> rfl
@[simp] theorem raiseIf_panel (c : Bool) (f : EventFlag) (s : State) : (raiseIf c f s).panel = s.panel := by unfold raiseIf; split <;> rfl
@[simp] theorem raiseIf_pending (c : Bool) (f : EventFlag) (s : State) : (raiseIf c f s).pending = s.pending := by unfold raiseIf; split <;> rfl

@[simp] theorem setFan_power (s : State) (d : Side) (f : Fan) : (setFan s d f).power = s.power := by cases d <;> rfl
@[simp] theorem setFan_line (s : State) (d : Side) (f : Fan) : (setFan s d f).line = s.line := by cases d <;> rfl
@[simp] theorem setFan_out (s : State) (d : Side) (f : Fan) : (setFan s d f).out = s.out := by cases d <;> rfl
@[simp] theorem setFan_peers (s : State) (d : Side) (f : Fan) : (setFan s d f).peers = s.peers := by cases d <;> rfl
@[simp] theorem setFan_join (s : State) (d : Side) (f : Fan) : (setFan s d f).join = s.join := by cases d <;> rfl
@[simp] theorem setFan_mode (s : State) (d : Side) (f : Fan) : (setFan s d f).mode = s.mode := by cases d <;> rfl
@[simp] theorem setFan_plan (s : State) (d : Side) (f : Fan) : (setFan s d f).plan = s.plan := by cases d <;> rfl
@[simp] theorem setFan_stack (s : State) (d : Side) (f : Fan) : (setFan s d f).stack = s.stack := by cases d <;> rfl
@[simp] theorem setFan_frost (s : State) (d : Side) (f : Fan) : (setFan s d f).frost = s.frost := by cases d <;> rfl
@[simp] theorem setFan_queue (s : State) (d : Side) (f : Fan) : (setFan s d f).queue = s.queue := by cases d <;> rfl
@[simp] theorem setFan_own (s : State) (d : Side) (f : Fan) : (setFan s d f).own = s.own := by cases d <;> rfl
@[simp] theorem setFan_humid (s : State) (d : Side) (f : Fan) : (setFan s d f).humid = s.humid := by cases d <;> rfl
@[simp] theorem setFan_filters (s : State) (d : Side) (f : Fan) : (setFan s d f).filters = s.filters := by cases d <;> rfl
@[simp] theorem setFan_nv (s : State) (d : Side) (f : Fan) : (setFan s d f).nv = s.nv := by cases d <;> rfl
@[simp] theorem setFan_torn (s : State) (d : Side) (f : Fan) : (setFan s d f).torn = s.torn := by cases d <;> rfl
@[simp] theorem setFan_clock (s : State) (d : Side) (f : Fan) : (setFan s d f).clock = s.clock := by cases d <;> rfl
@[simp] theorem setFan_sensors (s : State) (d : Side) (f : Fan) : (setFan s d f).sensors = s.sensors := by cases d <;> rfl
@[simp] theorem setFan_lamp (s : State) (d : Side) (f : Fan) : (setFan s d f).lamp = s.lamp := by cases d <;> rfl
@[simp] theorem setFan_panel (s : State) (d : Side) (f : Fan) : (setFan s d f).panel = s.panel := by cases d <;> rfl
@[simp] theorem setFan_events (s : State) (d : Side) (f : Fan) : (setFan s d f).events = s.events := by cases d <;> rfl
@[simp] theorem setFan_pending (s : State) (d : Side) (f : Fan) : (setFan s d f).pending = s.pending := by cases d <;> rfl

@[simp] theorem setFilter_power (s : State) (d : Side) (f : Filter) : (setFilter s d f).power = s.power := by cases d <;> rfl
@[simp] theorem setFilter_line (s : State) (d : Side) (f : Filter) : (setFilter s d f).line = s.line := by cases d <;> rfl
@[simp] theorem setFilter_out (s : State) (d : Side) (f : Filter) : (setFilter s d f).out = s.out := by cases d <;> rfl
@[simp] theorem setFilter_peers (s : State) (d : Side) (f : Filter) : (setFilter s d f).peers = s.peers := by cases d <;> rfl
@[simp] theorem setFilter_join (s : State) (d : Side) (f : Filter) : (setFilter s d f).join = s.join := by cases d <;> rfl
@[simp] theorem setFilter_mode (s : State) (d : Side) (f : Filter) : (setFilter s d f).mode = s.mode := by cases d <;> rfl
@[simp] theorem setFilter_plan (s : State) (d : Side) (f : Filter) : (setFilter s d f).plan = s.plan := by cases d <;> rfl
@[simp] theorem setFilter_supplyFan (s : State) (d : Side) (f : Filter) : (setFilter s d f).supplyFan = s.supplyFan := by cases d <;> rfl
@[simp] theorem setFilter_extractFan (s : State) (d : Side) (f : Filter) : (setFilter s d f).extractFan = s.extractFan := by cases d <;> rfl
@[simp] theorem setFilter_stack (s : State) (d : Side) (f : Filter) : (setFilter s d f).stack = s.stack := by cases d <;> rfl
@[simp] theorem setFilter_frost (s : State) (d : Side) (f : Filter) : (setFilter s d f).frost = s.frost := by cases d <;> rfl
@[simp] theorem setFilter_queue (s : State) (d : Side) (f : Filter) : (setFilter s d f).queue = s.queue := by cases d <;> rfl
@[simp] theorem setFilter_own (s : State) (d : Side) (f : Filter) : (setFilter s d f).own = s.own := by cases d <;> rfl
@[simp] theorem setFilter_humid (s : State) (d : Side) (f : Filter) : (setFilter s d f).humid = s.humid := by cases d <;> rfl
@[simp] theorem setFilter_nv (s : State) (d : Side) (f : Filter) : (setFilter s d f).nv = s.nv := by cases d <;> rfl
@[simp] theorem setFilter_torn (s : State) (d : Side) (f : Filter) : (setFilter s d f).torn = s.torn := by cases d <;> rfl
@[simp] theorem setFilter_clock (s : State) (d : Side) (f : Filter) : (setFilter s d f).clock = s.clock := by cases d <;> rfl
@[simp] theorem setFilter_sensors (s : State) (d : Side) (f : Filter) : (setFilter s d f).sensors = s.sensors := by cases d <;> rfl
@[simp] theorem setFilter_lamp (s : State) (d : Side) (f : Filter) : (setFilter s d f).lamp = s.lamp := by cases d <;> rfl
@[simp] theorem setFilter_panel (s : State) (d : Side) (f : Filter) : (setFilter s d f).panel = s.panel := by cases d <;> rfl
@[simp] theorem setFilter_events (s : State) (d : Side) (f : Filter) : (setFilter s d f).events = s.events := by cases d <;> rfl
@[simp] theorem setFilter_pending (s : State) (d : Side) (f : Filter) : (setFilter s d f).pending = s.pending := by cases d <;> rfl

@[simp] theorem holdRequest_power (c : Byte) (d : List Byte) (s : State) : (holdRequest c d s).power = s.power := rfl
@[simp] theorem holdRequest_line (c : Byte) (d : List Byte) (s : State) : (holdRequest c d s).line = s.line := rfl
@[simp] theorem holdRequest_out (c : Byte) (d : List Byte) (s : State) : (holdRequest c d s).out = s.out := rfl
@[simp] theorem holdRequest_peers (c : Byte) (d : List Byte) (s : State) : (holdRequest c d s).peers = s.peers := rfl
@[simp] theorem holdRequest_join (c : Byte) (d : List Byte) (s : State) : (holdRequest c d s).join = s.join := rfl
@[simp] theorem holdRequest_mode (c : Byte) (d : List Byte) (s : State) : (holdRequest c d s).mode = s.mode := rfl
@[simp] theorem holdRequest_plan (c : Byte) (d : List Byte) (s : State) : (holdRequest c d s).plan = s.plan := rfl
@[simp] theorem holdRequest_supplyFan (c : Byte) (d : List Byte) (s : State) : (holdRequest c d s).supplyFan = s.supplyFan := rfl
@[simp] theorem holdRequest_extractFan (c : Byte) (d : List Byte) (s : State) : (holdRequest c d s).extractFan = s.extractFan := rfl
@[simp] theorem holdRequest_stack (c : Byte) (d : List Byte) (s : State) : (holdRequest c d s).stack = s.stack := rfl
@[simp] theorem holdRequest_frost (c : Byte) (d : List Byte) (s : State) : (holdRequest c d s).frost = s.frost := rfl
@[simp] theorem holdRequest_queue (c : Byte) (d : List Byte) (s : State) : (holdRequest c d s).queue = s.queue := rfl
@[simp] theorem holdRequest_own (c : Byte) (d : List Byte) (s : State) : (holdRequest c d s).own = s.own := rfl
@[simp] theorem holdRequest_humid (c : Byte) (d : List Byte) (s : State) : (holdRequest c d s).humid = s.humid := rfl
@[simp] theorem holdRequest_filters (c : Byte) (d : List Byte) (s : State) : (holdRequest c d s).filters = s.filters := rfl
@[simp] theorem holdRequest_nv (c : Byte) (d : List Byte) (s : State) : (holdRequest c d s).nv = s.nv := rfl
@[simp] theorem holdRequest_torn (c : Byte) (d : List Byte) (s : State) : (holdRequest c d s).torn = s.torn := rfl
@[simp] theorem holdRequest_clock (c : Byte) (d : List Byte) (s : State) : (holdRequest c d s).clock = s.clock := rfl
@[simp] theorem holdRequest_sensors (c : Byte) (d : List Byte) (s : State) : (holdRequest c d s).sensors = s.sensors := rfl
@[simp] theorem holdRequest_lamp (c : Byte) (d : List Byte) (s : State) : (holdRequest c d s).lamp = s.lamp := rfl
@[simp] theorem holdRequest_events (c : Byte) (d : List Byte) (s : State) : (holdRequest c d s).events = s.events := rfl
@[simp] theorem holdRequest_pending (c : Byte) (d : List Byte) (s : State) : (holdRequest c d s).pending = s.pending := rfl

@[simp] theorem sendReply_power (k : ReplyKind) (d : List Byte) (s : State) : (sendReply k d s).power = s.power := rfl
@[simp] theorem sendReply_line (k : ReplyKind) (d : List Byte) (s : State) : (sendReply k d s).line = s.line := rfl
@[simp] theorem sendReply_out (k : ReplyKind) (d : List Byte) (s : State) : (sendReply k d s).out = s.out := rfl
@[simp] theorem sendReply_peers (k : ReplyKind) (d : List Byte) (s : State) : (sendReply k d s).peers = s.peers := rfl
@[simp] theorem sendReply_join (k : ReplyKind) (d : List Byte) (s : State) : (sendReply k d s).join = s.join := rfl
@[simp] theorem sendReply_mode (k : ReplyKind) (d : List Byte) (s : State) : (sendReply k d s).mode = s.mode := rfl
@[simp] theorem sendReply_plan (k : ReplyKind) (d : List Byte) (s : State) : (sendReply k d s).plan = s.plan := rfl
@[simp] theorem sendReply_supplyFan (k : ReplyKind) (d : List Byte) (s : State) : (sendReply k d s).supplyFan = s.supplyFan := rfl
@[simp] theorem sendReply_extractFan (k : ReplyKind) (d : List Byte) (s : State) : (sendReply k d s).extractFan = s.extractFan := rfl
@[simp] theorem sendReply_stack (k : ReplyKind) (d : List Byte) (s : State) : (sendReply k d s).stack = s.stack := rfl
@[simp] theorem sendReply_frost (k : ReplyKind) (d : List Byte) (s : State) : (sendReply k d s).frost = s.frost := rfl
@[simp] theorem sendReply_queue (k : ReplyKind) (d : List Byte) (s : State) : (sendReply k d s).queue = s.queue := rfl
@[simp] theorem sendReply_own (k : ReplyKind) (d : List Byte) (s : State) : (sendReply k d s).own = s.own := rfl
@[simp] theorem sendReply_humid (k : ReplyKind) (d : List Byte) (s : State) : (sendReply k d s).humid = s.humid := rfl
@[simp] theorem sendReply_filters (k : ReplyKind) (d : List Byte) (s : State) : (sendReply k d s).filters = s.filters := rfl
@[simp] theorem sendReply_nv (k : ReplyKind) (d : List Byte) (s : State) : (sendReply k d s).nv = s.nv := rfl
@[simp] theorem sendReply_torn (k : ReplyKind) (d : List Byte) (s : State) : (sendReply k d s).torn = s.torn := rfl
@[simp] theorem sendReply_clock (k : ReplyKind) (d : List Byte) (s : State) : (sendReply k d s).clock = s.clock := rfl
@[simp] theorem sendReply_sensors (k : ReplyKind) (d : List Byte) (s : State) : (sendReply k d s).sensors = s.sensors := rfl
@[simp] theorem sendReply_lamp (k : ReplyKind) (d : List Byte) (s : State) : (sendReply k d s).lamp = s.lamp := rfl
@[simp] theorem sendReply_events (k : ReplyKind) (d : List Byte) (s : State) : (sendReply k d s).events = s.events := rfl
@[simp] theorem sendReply_pending (k : ReplyKind) (d : List Byte) (s : State) : (sendReply k d s).pending = s.pending := rfl

theorem done_eq (d : List Byte) (s : State) : done d s = sendReply .done d s := rfl

theorem refuse_eq (r : Reason) (s : State) : refuse r s = sendReply .refused [r.code] s := rfl

@[simp] theorem setFan_supply (s : State) (f : Fan) : setFan s .supply f = { s with supplyFan := f } := rfl

@[simp] theorem setFan_extract (s : State) (f : Fan) : setFan s .extract f = { s with extractFan := f } := rfl

@[simp] theorem fanOf_supply (s : State) : fanOf s .supply = s.supplyFan := rfl

@[simp] theorem fanOf_extract (s : State) : fanOf s .extract = s.extractFan := rfl

@[simp] theorem fanOf_setFan (s : State) (d : Side) (f : Fan) : fanOf (setFan s d f) d = f := by cases d <;> rfl

@[simp] theorem setFilter_supply (s : State) (f : Filter) :
    setFilter s .supply f = { s with filters := { s.filters with supply := f } } := rfl

@[simp] theorem setFilter_extract (s : State) (f : Filter) :
    setFilter s .extract f = { s with filters := { s.filters with extract := f } } := rfl

@[simp] theorem filterOf_setFilter (s : State) (d : Side) (f : Filter) : filterOf (setFilter s d f) d = f := by
  cases d <;> rfl

theorem raiseIf_true (f : EventFlag) (s : State) : raiseIf true f s = raise f s := rfl

theorem raiseIf_false (f : EventFlag) (s : State) : raiseIf false f s = s := rfl

/-- A command that reaches a running station. -/
theorem live_running {s : State} (h : s.power = .running) (f : State → State) : live s f = .next (f s) := by
  simp [live, h]

/-- A command that reaches a station held by reset or without power. -/
theorem live_resting {s : State} (h : s.power ≠ .running) (f : State → State) : live s f = .next s := by simp [live, h]

end Sys2Proof.Machine
end

