-- ==== Sys2Proof/Laws/Frames.lean ====
section
/-! SUPPORT. What the shared operations leave alone: one lemma for each operation and each field it does not change. A proof
that needs a field after an event cites these and unfolds nothing. -/

namespace Sys2Proof.Machine

/-! requestGive -/

@[simp] theorem requestGive_power (s : State) : (requestGive s).power = s.power := by unfold requestGive; split <;> rfl
@[simp] theorem requestGive_line (s : State) : (requestGive s).line = s.line := by unfold requestGive; split <;> rfl
@[simp] theorem requestGive_peers (s : State) : (requestGive s).peers = s.peers := by unfold requestGive; split <;> rfl
@[simp] theorem requestGive_join (s : State) : (requestGive s).join = s.join := by unfold requestGive; split <;> rfl
@[simp] theorem requestGive_mode (s : State) : (requestGive s).mode = s.mode := by unfold requestGive; split <;> rfl
@[simp] theorem requestGive_plan (s : State) : (requestGive s).plan = s.plan := by unfold requestGive; split <;> rfl
@[simp] theorem requestGive_supplyFan (s : State) : (requestGive s).supplyFan = s.supplyFan := by unfold requestGive; split <;> rfl
@[simp] theorem requestGive_extractFan (s : State) : (requestGive s).extractFan = s.extractFan := by unfold requestGive; split <;> rfl
@[simp] theorem requestGive_stack (s : State) : (requestGive s).stack = s.stack := by unfold requestGive; split <;> rfl
@[simp] theorem requestGive_frost (s : State) : (requestGive s).frost = s.frost := by unfold requestGive; split <;> rfl
@[simp] theorem requestGive_queue (s : State) : (requestGive s).queue = s.queue := by unfold requestGive; split <;> rfl
@[simp] theorem requestGive_humid (s : State) : (requestGive s).humid = s.humid := by unfold requestGive; split <;> rfl
@[simp] theorem requestGive_filters (s : State) : (requestGive s).filters = s.filters := by unfold requestGive; split <;> rfl
@[simp] theorem requestGive_nv (s : State) : (requestGive s).nv = s.nv := by unfold requestGive; split <;> rfl
@[simp] theorem requestGive_torn (s : State) : (requestGive s).torn = s.torn := by unfold requestGive; split <;> rfl
@[simp] theorem requestGive_clock (s : State) : (requestGive s).clock = s.clock := by unfold requestGive; split <;> rfl
@[simp] theorem requestGive_sensors (s : State) : (requestGive s).sensors = s.sensors := by unfold requestGive; split <;> rfl
@[simp] theorem requestGive_lamp (s : State) : (requestGive s).lamp = s.lamp := by unfold requestGive; split <;> rfl
@[simp] theorem requestGive_panel (s : State) : (requestGive s).panel = s.panel := by unfold requestGive; split <;> rfl
@[simp] theorem requestGive_events (s : State) : (requestGive s).events = s.events := by unfold requestGive; split <;> rfl
@[simp] theorem requestGive_pending (s : State) : (requestGive s).pending = s.pending := by unfold requestGive; split <;> rfl
@[simp] theorem requestGive_out_status (s : State) : (requestGive s).out.status = s.out.status := by unfold requestGive; split <;> rfl
@[simp] theorem requestGive_out_test (s : State) : (requestGive s).out.test = s.out.test := by unfold requestGive; split <;> rfl
@[simp] theorem requestGive_out_terms (s : State) : (requestGive s).out.terms = s.out.terms := by unfold requestGive; split <;> rfl

/-! giveUp -/

@[simp] theorem giveUp_power (s : State) : (giveUp s).power = s.power := by unfold giveUp; split <;> [rfl; (split <;> [simp; (split <;> simp)])]
@[simp] theorem giveUp_line (s : State) : (giveUp s).line = s.line := by unfold giveUp; split <;> [rfl; (split <;> [simp; (split <;> simp)])]
@[simp] theorem giveUp_peers (s : State) : (giveUp s).peers = s.peers := by unfold giveUp; split <;> [rfl; (split <;> [simp; (split <;> simp)])]
@[simp] theorem giveUp_join (s : State) : (giveUp s).join = s.join := by unfold giveUp; split <;> [rfl; (split <;> [simp; (split <;> simp)])]
@[simp] theorem giveUp_mode (s : State) : (giveUp s).mode = s.mode := by unfold giveUp; split <;> [rfl; (split <;> [simp; (split <;> simp)])]
@[simp] theorem giveUp_plan (s : State) : (giveUp s).plan = s.plan := by unfold giveUp; split <;> [rfl; (split <;> [simp; (split <;> simp)])]
@[simp] theorem giveUp_supplyFan (s : State) : (giveUp s).supplyFan = s.supplyFan := by unfold giveUp; split <;> [rfl; (split <;> [simp; (split <;> simp)])]
@[simp] theorem giveUp_extractFan (s : State) : (giveUp s).extractFan = s.extractFan := by unfold giveUp; split <;> [rfl; (split <;> [simp; (split <;> simp)])]
@[simp] theorem giveUp_stack (s : State) : (giveUp s).stack = s.stack := by unfold giveUp; split <;> [rfl; (split <;> [simp; (split <;> simp)])]
@[simp] theorem giveUp_frost (s : State) : (giveUp s).frost = s.frost := by unfold giveUp; split <;> [rfl; (split <;> [simp; (split <;> simp)])]
@[simp] theorem giveUp_queue (s : State) : (giveUp s).queue = s.queue := by unfold giveUp; split <;> [rfl; (split <;> [simp; (split <;> simp)])]
@[simp] theorem giveUp_humid (s : State) : (giveUp s).humid = s.humid := by unfold giveUp; split <;> [rfl; (split <;> [simp; (split <;> simp)])]
@[simp] theorem giveUp_filters (s : State) : (giveUp s).filters = s.filters := by unfold giveUp; split <;> [rfl; (split <;> [simp; (split <;> simp)])]
@[simp] theorem giveUp_nv (s : State) : (giveUp s).nv = s.nv := by unfold giveUp; split <;> [rfl; (split <;> [simp; (split <;> simp)])]
@[simp] theorem giveUp_torn (s : State) : (giveUp s).torn = s.torn := by unfold giveUp; split <;> [rfl; (split <;> [simp; (split <;> simp)])]
@[simp] theorem giveUp_clock (s : State) : (giveUp s).clock = s.clock := by unfold giveUp; split <;> [rfl; (split <;> [simp; (split <;> simp)])]
@[simp] theorem giveUp_sensors (s : State) : (giveUp s).sensors = s.sensors := by unfold giveUp; split <;> [rfl; (split <;> [simp; (split <;> simp)])]
@[simp] theorem giveUp_lamp (s : State) : (giveUp s).lamp = s.lamp := by unfold giveUp; split <;> [rfl; (split <;> [simp; (split <;> simp)])]
@[simp] theorem giveUp_panel (s : State) : (giveUp s).panel = s.panel := by unfold giveUp; split <;> [rfl; (split <;> [simp; (split <;> simp)])]
@[simp] theorem giveUp_events (s : State) : (giveUp s).events = s.events := by unfold giveUp; split <;> [rfl; (split <;> [simp; (split <;> simp)])]
@[simp] theorem giveUp_pending (s : State) : (giveUp s).pending = s.pending := by unfold giveUp; split <;> [rfl; (split <;> [simp; (split <;> simp)])]
@[simp] theorem giveUp_out_status (s : State) : (giveUp s).out.status = s.out.status := by unfold giveUp; split <;> [rfl; (split <;> [simp; (split <;> simp)])]
@[simp] theorem giveUp_out_test (s : State) : (giveUp s).out.test = s.out.test := by unfold giveUp; split <;> [rfl; (split <;> [simp; (split <;> simp)])]
@[simp] theorem giveUp_out_terms (s : State) : (giveUp s).out.terms = s.out.terms := by unfold giveUp; split <;> [rfl; (split <;> [simp; (split <;> simp)])]

/-! requestTake -/

@[simp] theorem requestTake_power (s : State) : (requestTake s).power = s.power := by unfold requestTake; split <;> rfl
@[simp] theorem requestTake_line (s : State) : (requestTake s).line = s.line := by unfold requestTake; split <;> rfl
@[simp] theorem requestTake_peers (s : State) : (requestTake s).peers = s.peers := by unfold requestTake; split <;> rfl
@[simp] theorem requestTake_join (s : State) : (requestTake s).join = s.join := by unfold requestTake; split <;> rfl
@[simp] theorem requestTake_mode (s : State) : (requestTake s).mode = s.mode := by unfold requestTake; split <;> rfl
@[simp] theorem requestTake_plan (s : State) : (requestTake s).plan = s.plan := by unfold requestTake; split <;> rfl
@[simp] theorem requestTake_supplyFan (s : State) : (requestTake s).supplyFan = s.supplyFan := by unfold requestTake; split <;> rfl
@[simp] theorem requestTake_extractFan (s : State) : (requestTake s).extractFan = s.extractFan := by unfold requestTake; split <;> rfl
@[simp] theorem requestTake_stack (s : State) : (requestTake s).stack = s.stack := by unfold requestTake; split <;> rfl
@[simp] theorem requestTake_frost (s : State) : (requestTake s).frost = s.frost := by unfold requestTake; split <;> rfl
@[simp] theorem requestTake_queue (s : State) : (requestTake s).queue = s.queue := by unfold requestTake; split <;> rfl
@[simp] theorem requestTake_humid (s : State) : (requestTake s).humid = s.humid := by unfold requestTake; split <;> rfl
@[simp] theorem requestTake_filters (s : State) : (requestTake s).filters = s.filters := by unfold requestTake; split <;> rfl
@[simp] theorem requestTake_nv (s : State) : (requestTake s).nv = s.nv := by unfold requestTake; split <;> rfl
@[simp] theorem requestTake_torn (s : State) : (requestTake s).torn = s.torn := by unfold requestTake; split <;> rfl
@[simp] theorem requestTake_clock (s : State) : (requestTake s).clock = s.clock := by unfold requestTake; split <;> rfl
@[simp] theorem requestTake_sensors (s : State) : (requestTake s).sensors = s.sensors := by unfold requestTake; split <;> rfl
@[simp] theorem requestTake_lamp (s : State) : (requestTake s).lamp = s.lamp := by unfold requestTake; split <;> rfl
@[simp] theorem requestTake_panel (s : State) : (requestTake s).panel = s.panel := by unfold requestTake; split <;> rfl
@[simp] theorem requestTake_events (s : State) : (requestTake s).events = s.events := by unfold requestTake; split <;> rfl
@[simp] theorem requestTake_pending (s : State) : (requestTake s).pending = s.pending := by unfold requestTake; split <;> rfl
@[simp] theorem requestTake_out_status (s : State) : (requestTake s).out.status = s.out.status := by unfold requestTake; split <;> rfl
@[simp] theorem requestTake_out_test (s : State) : (requestTake s).out.test = s.out.test := by unfold requestTake; split <;> rfl
@[simp] theorem requestTake_out_terms (s : State) : (requestTake s).out.terms = s.out.terms := by unfold requestTake; split <;> rfl

/-! composeOnce -/

@[simp] theorem composeOnce_power (s : State) : (composeOnce s).power = s.power := by unfold composeOnce; split <;> rfl
@[simp] theorem composeOnce_line (s : State) : (composeOnce s).line = s.line := by unfold composeOnce; split <;> rfl
@[simp] theorem composeOnce_out (s : State) : (composeOnce s).out = s.out := by unfold composeOnce; split <;> rfl
@[simp] theorem composeOnce_peers (s : State) : (composeOnce s).peers = s.peers := by unfold composeOnce; split <;> rfl
@[simp] theorem composeOnce_join (s : State) : (composeOnce s).join = s.join := by unfold composeOnce; split <;> rfl
@[simp] theorem composeOnce_mode (s : State) : (composeOnce s).mode = s.mode := by unfold composeOnce; split <;> rfl
@[simp] theorem composeOnce_supplyFan (s : State) : (composeOnce s).supplyFan = s.supplyFan := by unfold composeOnce; split <;> rfl
@[simp] theorem composeOnce_extractFan (s : State) : (composeOnce s).extractFan = s.extractFan := by unfold composeOnce; split <;> rfl
@[simp] theorem composeOnce_frost (s : State) : (composeOnce s).frost = s.frost := by unfold composeOnce; split <;> rfl
@[simp] theorem composeOnce_queue (s : State) : (composeOnce s).queue = s.queue := by unfold composeOnce; split <;> rfl
@[simp] theorem composeOnce_own (s : State) : (composeOnce s).own = s.own := by unfold composeOnce; split <;> rfl
@[simp] theorem composeOnce_humid (s : State) : (composeOnce s).humid = s.humid := by unfold composeOnce; split <;> rfl
@[simp] theorem composeOnce_filters (s : State) : (composeOnce s).filters = s.filters := by unfold composeOnce; split <;> rfl
@[simp] theorem composeOnce_nv (s : State) : (composeOnce s).nv = s.nv := by unfold composeOnce; split <;> rfl
@[simp] theorem composeOnce_torn (s : State) : (composeOnce s).torn = s.torn := by unfold composeOnce; split <;> rfl
@[simp] theorem composeOnce_clock (s : State) : (composeOnce s).clock = s.clock := by unfold composeOnce; split <;> rfl
@[simp] theorem composeOnce_sensors (s : State) : (composeOnce s).sensors = s.sensors := by unfold composeOnce; split <;> rfl
@[simp] theorem composeOnce_lamp (s : State) : (composeOnce s).lamp = s.lamp := by unfold composeOnce; split <;> rfl
@[simp] theorem composeOnce_panel (s : State) : (composeOnce s).panel = s.panel := by unfold composeOnce; split <;> rfl
@[simp] theorem composeOnce_events (s : State) : (composeOnce s).events = s.events := by unfold composeOnce; split <;> rfl
@[simp] theorem composeOnce_pending (s : State) : (composeOnce s).pending = s.pending := by unfold composeOnce; split <;> rfl

/-! checkLimit -/

@[simp] theorem checkLimit_power (s : State) : (checkLimit s).power = s.power := by unfold checkLimit; split <;> simp
@[simp] theorem checkLimit_line (s : State) : (checkLimit s).line = s.line := by unfold checkLimit; split <;> simp
@[simp] theorem checkLimit_out (s : State) : (checkLimit s).out = s.out := by unfold checkLimit; split <;> simp
@[simp] theorem checkLimit_peers (s : State) : (checkLimit s).peers = s.peers := by unfold checkLimit; split <;> simp
@[simp] theorem checkLimit_join (s : State) : (checkLimit s).join = s.join := by unfold checkLimit; split <;> simp
@[simp] theorem checkLimit_mode (s : State) : (checkLimit s).mode = s.mode := by unfold checkLimit; split <;> simp
@[simp] theorem checkLimit_plan (s : State) : (checkLimit s).plan = s.plan := by unfold checkLimit; split <;> simp
@[simp] theorem checkLimit_supplyFan (s : State) : (checkLimit s).supplyFan = s.supplyFan := by unfold checkLimit; split <;> simp
@[simp] theorem checkLimit_extractFan (s : State) : (checkLimit s).extractFan = s.extractFan := by unfold checkLimit; split <;> simp
@[simp] theorem checkLimit_frost (s : State) : (checkLimit s).frost = s.frost := by unfold checkLimit; split <;> simp
@[simp] theorem checkLimit_queue (s : State) : (checkLimit s).queue = s.queue := by unfold checkLimit; split <;> simp
@[simp] theorem checkLimit_own (s : State) : (checkLimit s).own = s.own := by unfold checkLimit; split <;> simp
@[simp] theorem checkLimit_humid (s : State) : (checkLimit s).humid = s.humid := by unfold checkLimit; split <;> simp
@[simp] theorem checkLimit_filters (s : State) : (checkLimit s).filters = s.filters := by unfold checkLimit; split <;> simp
@[simp] theorem checkLimit_nv (s : State) : (checkLimit s).nv = s.nv := by unfold checkLimit; split <;> simp
@[simp] theorem checkLimit_torn (s : State) : (checkLimit s).torn = s.torn := by unfold checkLimit; split <;> simp
@[simp] theorem checkLimit_clock (s : State) : (checkLimit s).clock = s.clock := by unfold checkLimit; split <;> simp
@[simp] theorem checkLimit_sensors (s : State) : (checkLimit s).sensors = s.sensors := by unfold checkLimit; split <;> simp
@[simp] theorem checkLimit_lamp (s : State) : (checkLimit s).lamp = s.lamp := by unfold checkLimit; split <;> simp
@[simp] theorem checkLimit_panel (s : State) : (checkLimit s).panel = s.panel := by unfold checkLimit; split <;> simp
@[simp] theorem checkLimit_pending (s : State) : (checkLimit s).pending = s.pending := by unfold checkLimit; split <;> simp

/-! formCap -/

@[simp] theorem formCap_power (s : State) : (formCap s).power = s.power := rfl
@[simp] theorem formCap_line (s : State) : (formCap s).line = s.line := rfl
@[simp] theorem formCap_out (s : State) : (formCap s).out = s.out := rfl
@[simp] theorem formCap_peers (s : State) : (formCap s).peers = s.peers := rfl
@[simp] theorem formCap_join (s : State) : (formCap s).join = s.join := rfl
@[simp] theorem formCap_mode (s : State) : (formCap s).mode = s.mode := rfl
@[simp] theorem formCap_plan (s : State) : (formCap s).plan = s.plan := rfl
@[simp] theorem formCap_supplyFan (s : State) : (formCap s).supplyFan = s.supplyFan := rfl
@[simp] theorem formCap_extractFan (s : State) : (formCap s).extractFan = s.extractFan := rfl
@[simp] theorem formCap_frost (s : State) : (formCap s).frost = s.frost := rfl
@[simp] theorem formCap_queue (s : State) : (formCap s).queue = s.queue := rfl
@[simp] theorem formCap_own (s : State) : (formCap s).own = s.own := rfl
@[simp] theorem formCap_humid (s : State) : (formCap s).humid = s.humid := rfl
@[simp] theorem formCap_filters (s : State) : (formCap s).filters = s.filters := rfl
@[simp] theorem formCap_nv (s : State) : (formCap s).nv = s.nv := rfl
@[simp] theorem formCap_torn (s : State) : (formCap s).torn = s.torn := rfl
@[simp] theorem formCap_clock (s : State) : (formCap s).clock = s.clock := rfl
@[simp] theorem formCap_sensors (s : State) : (formCap s).sensors = s.sensors := rfl
@[simp] theorem formCap_lamp (s : State) : (formCap s).lamp = s.lamp := rfl
@[simp] theorem formCap_panel (s : State) : (formCap s).panel = s.panel := rfl
@[simp] theorem formCap_events (s : State) : (formCap s).events = s.events := rfl
@[simp] theorem formCap_pending (s : State) : (formCap s).pending = s.pending := rfl

/-! compose -/

@[simp] theorem compose_power (s : State) : (compose s).power = s.power := by simp only [compose]; split <;> simp
@[simp] theorem compose_line (s : State) : (compose s).line = s.line := by simp only [compose]; split <;> simp
@[simp] theorem compose_out (s : State) : (compose s).out = s.out := by simp only [compose]; split <;> simp
@[simp] theorem compose_peers (s : State) : (compose s).peers = s.peers := by simp only [compose]; split <;> simp
@[simp] theorem compose_join (s : State) : (compose s).join = s.join := by simp only [compose]; split <;> simp
@[simp] theorem compose_mode (s : State) : (compose s).mode = s.mode := by simp only [compose]; split <;> simp
@[simp] theorem compose_supplyFan (s : State) : (compose s).supplyFan = s.supplyFan := by simp only [compose]; split <;> simp
@[simp] theorem compose_extractFan (s : State) : (compose s).extractFan = s.extractFan := by simp only [compose]; split <;> simp
@[simp] theorem compose_frost (s : State) : (compose s).frost = s.frost := by simp only [compose]; split <;> simp
@[simp] theorem compose_queue (s : State) : (compose s).queue = s.queue := by simp only [compose]; split <;> simp
@[simp] theorem compose_own (s : State) : (compose s).own = s.own := by simp only [compose]; split <;> simp
@[simp] theorem compose_humid (s : State) : (compose s).humid = s.humid := by simp only [compose]; split <;> simp
@[simp] theorem compose_filters (s : State) : (compose s).filters = s.filters := by simp only [compose]; split <;> simp
@[simp] theorem compose_nv (s : State) : (compose s).nv = s.nv := by simp only [compose]; split <;> simp
@[simp] theorem compose_torn (s : State) : (compose s).torn = s.torn := by simp only [compose]; split <;> simp
@[simp] theorem compose_clock (s : State) : (compose s).clock = s.clock := by simp only [compose]; split <;> simp
@[simp] theorem compose_sensors (s : State) : (compose s).sensors = s.sensors := by simp only [compose]; split <;> simp
@[simp] theorem compose_lamp (s : State) : (compose s).lamp = s.lamp := by simp only [compose]; split <;> simp
@[simp] theorem compose_panel (s : State) : (compose s).panel = s.panel := by simp only [compose]; split <;> simp
@[simp] theorem compose_pending (s : State) : (compose s).pending = s.pending := by simp only [compose]; split <;> simp

/-! evaluate -/

@[simp] theorem evaluate_power (s : State) : (evaluate s).power = s.power := by simp only [evaluate]; split <;> simp
@[simp] theorem evaluate_line (s : State) : (evaluate s).line = s.line := by simp only [evaluate]; split <;> simp
@[simp] theorem evaluate_out (s : State) : (evaluate s).out = s.out := by simp only [evaluate]; split <;> simp
@[simp] theorem evaluate_peers (s : State) : (evaluate s).peers = s.peers := by simp only [evaluate]; split <;> simp
@[simp] theorem evaluate_join (s : State) : (evaluate s).join = s.join := by simp only [evaluate]; split <;> simp
@[simp] theorem evaluate_mode (s : State) : (evaluate s).mode = s.mode := by simp only [evaluate]; split <;> simp
@[simp] theorem evaluate_supplyFan (s : State) : (evaluate s).supplyFan = s.supplyFan := by simp only [evaluate]; split <;> simp
@[simp] theorem evaluate_extractFan (s : State) : (evaluate s).extractFan = s.extractFan := by simp only [evaluate]; split <;> simp
@[simp] theorem evaluate_frost (s : State) : (evaluate s).frost = s.frost := by simp only [evaluate]; split <;> simp
@[simp] theorem evaluate_queue (s : State) : (evaluate s).queue = s.queue := by simp only [evaluate]; split <;> simp
@[simp] theorem evaluate_own (s : State) : (evaluate s).own = s.own := by simp only [evaluate]; split <;> simp
@[simp] theorem evaluate_humid (s : State) : (evaluate s).humid = s.humid := by simp only [evaluate]; split <;> simp
@[simp] theorem evaluate_filters (s : State) : (evaluate s).filters = s.filters := by simp only [evaluate]; split <;> simp
@[simp] theorem evaluate_nv (s : State) : (evaluate s).nv = s.nv := by simp only [evaluate]; split <;> simp
@[simp] theorem evaluate_torn (s : State) : (evaluate s).torn = s.torn := by simp only [evaluate]; split <;> simp
@[simp] theorem evaluate_clock (s : State) : (evaluate s).clock = s.clock := by simp only [evaluate]; split <;> simp
@[simp] theorem evaluate_sensors (s : State) : (evaluate s).sensors = s.sensors := by simp only [evaluate]; split <;> simp
@[simp] theorem evaluate_lamp (s : State) : (evaluate s).lamp = s.lamp := by simp only [evaluate]; split <;> simp
@[simp] theorem evaluate_panel (s : State) : (evaluate s).panel = s.panel := by simp only [evaluate]; split <;> simp
@[simp] theorem evaluate_pending (s : State) : (evaluate s).pending = s.pending := by simp only [evaluate]; split <;> simp

/-! handTargets -/

@[simp] theorem handTargets_power (s : State) : (handTargets s).power = s.power := by simp [handTargets]
@[simp] theorem handTargets_line (s : State) : (handTargets s).line = s.line := by simp [handTargets]
@[simp] theorem handTargets_out (s : State) : (handTargets s).out = s.out := by simp [handTargets]
@[simp] theorem handTargets_peers (s : State) : (handTargets s).peers = s.peers := by simp [handTargets]
@[simp] theorem handTargets_join (s : State) : (handTargets s).join = s.join := by simp [handTargets]
@[simp] theorem handTargets_mode (s : State) : (handTargets s).mode = s.mode := by simp [handTargets]
@[simp] theorem handTargets_plan (s : State) : (handTargets s).plan = s.plan := by simp [handTargets]
@[simp] theorem handTargets_stack (s : State) : (handTargets s).stack = s.stack := by simp [handTargets]
@[simp] theorem handTargets_frost (s : State) : (handTargets s).frost = s.frost := by simp [handTargets]
@[simp] theorem handTargets_queue (s : State) : (handTargets s).queue = s.queue := by simp [handTargets]
@[simp] theorem handTargets_own (s : State) : (handTargets s).own = s.own := by simp [handTargets]
@[simp] theorem handTargets_humid (s : State) : (handTargets s).humid = s.humid := by simp [handTargets]
@[simp] theorem handTargets_filters (s : State) : (handTargets s).filters = s.filters := by simp [handTargets]
@[simp] theorem handTargets_nv (s : State) : (handTargets s).nv = s.nv := by simp [handTargets]
@[simp] theorem handTargets_torn (s : State) : (handTargets s).torn = s.torn := by simp [handTargets]
@[simp] theorem handTargets_clock (s : State) : (handTargets s).clock = s.clock := by simp [handTargets]
@[simp] theorem handTargets_sensors (s : State) : (handTargets s).sensors = s.sensors := by simp [handTargets]
@[simp] theorem handTargets_lamp (s : State) : (handTargets s).lamp = s.lamp := by simp [handTargets]
@[simp] theorem handTargets_panel (s : State) : (handTargets s).panel = s.panel := by simp [handTargets]
@[simp] theorem handTargets_pending (s : State) : (handTargets s).pending = s.pending := by simp [handTargets]

/-! reduceEligible -/

@[simp] theorem reduceEligible_power (s : State) : (reduceEligible s).power = s.power := by unfold reduceEligible; split <;> simp [toPreheat]
@[simp] theorem reduceEligible_line (s : State) : (reduceEligible s).line = s.line := by unfold reduceEligible; split <;> simp [toPreheat]
@[simp] theorem reduceEligible_peers (s : State) : (reduceEligible s).peers = s.peers := by unfold reduceEligible; split <;> simp [toPreheat]
@[simp] theorem reduceEligible_join (s : State) : (reduceEligible s).join = s.join := by unfold reduceEligible; split <;> simp [toPreheat]
@[simp] theorem reduceEligible_mode (s : State) : (reduceEligible s).mode = s.mode := by unfold reduceEligible; split <;> simp [toPreheat]
@[simp] theorem reduceEligible_plan (s : State) : (reduceEligible s).plan = s.plan := by unfold reduceEligible; split <;> simp [toPreheat]
@[simp] theorem reduceEligible_supplyFan (s : State) : (reduceEligible s).supplyFan = s.supplyFan := by unfold reduceEligible; split <;> simp [toPreheat]
@[simp] theorem reduceEligible_extractFan (s : State) : (reduceEligible s).extractFan = s.extractFan := by unfold reduceEligible; split <;> simp [toPreheat]
@[simp] theorem reduceEligible_stack (s : State) : (reduceEligible s).stack = s.stack := by unfold reduceEligible; split <;> simp [toPreheat]
@[simp] theorem reduceEligible_queue (s : State) : (reduceEligible s).queue = s.queue := by unfold reduceEligible; split <;> simp [toPreheat]
@[simp] theorem reduceEligible_humid (s : State) : (reduceEligible s).humid = s.humid := by unfold reduceEligible; split <;> simp [toPreheat]
@[simp] theorem reduceEligible_filters (s : State) : (reduceEligible s).filters = s.filters := by unfold reduceEligible; split <;> simp [toPreheat]
@[simp] theorem reduceEligible_nv (s : State) : (reduceEligible s).nv = s.nv := by unfold reduceEligible; split <;> simp [toPreheat]
@[simp] theorem reduceEligible_torn (s : State) : (reduceEligible s).torn = s.torn := by unfold reduceEligible; split <;> simp [toPreheat]
@[simp] theorem reduceEligible_clock (s : State) : (reduceEligible s).clock = s.clock := by unfold reduceEligible; split <;> simp [toPreheat]
@[simp] theorem reduceEligible_sensors (s : State) : (reduceEligible s).sensors = s.sensors := by unfold reduceEligible; split <;> simp [toPreheat]
@[simp] theorem reduceEligible_lamp (s : State) : (reduceEligible s).lamp = s.lamp := by unfold reduceEligible; split <;> simp [toPreheat]
@[simp] theorem reduceEligible_panel (s : State) : (reduceEligible s).panel = s.panel := by unfold reduceEligible; split <;> simp [toPreheat]
@[simp] theorem reduceEligible_events (s : State) : (reduceEligible s).events = s.events := by unfold reduceEligible; split <;> simp [toPreheat]
@[simp] theorem reduceEligible_pending (s : State) : (reduceEligible s).pending = s.pending := by unfold reduceEligible; split <;> simp [toPreheat]
@[simp] theorem reduceEligible_out_status (s : State) : (reduceEligible s).out.status = s.out.status := by unfold reduceEligible; split <;> simp [toPreheat]
@[simp] theorem reduceEligible_out_test (s : State) : (reduceEligible s).out.test = s.out.test := by unfold reduceEligible; split <;> simp [toPreheat]
@[simp] theorem reduceEligible_out_terms (s : State) : (reduceEligible s).out.terms = s.out.terms := by unfold reduceEligible; split <;> simp [toPreheat]

/-! preheatLost -/

@[simp] theorem preheatLost_power (s : State) : (preheatLost s).power = s.power := by simp only [preheatLost]; split <;> [rfl; (split <;> simp [preheatToReduce])]
@[simp] theorem preheatLost_line (s : State) : (preheatLost s).line = s.line := by simp only [preheatLost]; split <;> [rfl; (split <;> simp [preheatToReduce])]
@[simp] theorem preheatLost_peers (s : State) : (preheatLost s).peers = s.peers := by simp only [preheatLost]; split <;> [rfl; (split <;> simp [preheatToReduce])]
@[simp] theorem preheatLost_join (s : State) : (preheatLost s).join = s.join := by simp only [preheatLost]; split <;> [rfl; (split <;> simp [preheatToReduce])]
@[simp] theorem preheatLost_mode (s : State) : (preheatLost s).mode = s.mode := by simp only [preheatLost]; split <;> [rfl; (split <;> simp [preheatToReduce])]
@[simp] theorem preheatLost_plan (s : State) : (preheatLost s).plan = s.plan := by simp only [preheatLost]; split <;> [rfl; (split <;> simp [preheatToReduce])]
@[simp] theorem preheatLost_supplyFan (s : State) : (preheatLost s).supplyFan = s.supplyFan := by simp only [preheatLost]; split <;> [rfl; (split <;> simp [preheatToReduce])]
@[simp] theorem preheatLost_extractFan (s : State) : (preheatLost s).extractFan = s.extractFan := by simp only [preheatLost]; split <;> [rfl; (split <;> simp [preheatToReduce])]
@[simp] theorem preheatLost_stack (s : State) : (preheatLost s).stack = s.stack := by simp only [preheatLost]; split <;> [rfl; (split <;> simp [preheatToReduce])]
@[simp] theorem preheatLost_queue (s : State) : (preheatLost s).queue = s.queue := by simp only [preheatLost]; split <;> [rfl; (split <;> simp [preheatToReduce])]
@[simp] theorem preheatLost_humid (s : State) : (preheatLost s).humid = s.humid := by simp only [preheatLost]; split <;> [rfl; (split <;> simp [preheatToReduce])]
@[simp] theorem preheatLost_filters (s : State) : (preheatLost s).filters = s.filters := by simp only [preheatLost]; split <;> [rfl; (split <;> simp [preheatToReduce])]
@[simp] theorem preheatLost_nv (s : State) : (preheatLost s).nv = s.nv := by simp only [preheatLost]; split <;> [rfl; (split <;> simp [preheatToReduce])]
@[simp] theorem preheatLost_torn (s : State) : (preheatLost s).torn = s.torn := by simp only [preheatLost]; split <;> [rfl; (split <;> simp [preheatToReduce])]
@[simp] theorem preheatLost_clock (s : State) : (preheatLost s).clock = s.clock := by simp only [preheatLost]; split <;> [rfl; (split <;> simp [preheatToReduce])]
@[simp] theorem preheatLost_sensors (s : State) : (preheatLost s).sensors = s.sensors := by simp only [preheatLost]; split <;> [rfl; (split <;> simp [preheatToReduce])]
@[simp] theorem preheatLost_lamp (s : State) : (preheatLost s).lamp = s.lamp := by simp only [preheatLost]; split <;> [rfl; (split <;> simp [preheatToReduce])]
@[simp] theorem preheatLost_panel (s : State) : (preheatLost s).panel = s.panel := by simp only [preheatLost]; split <;> [rfl; (split <;> simp [preheatToReduce])]
@[simp] theorem preheatLost_events (s : State) : (preheatLost s).events = s.events := by simp only [preheatLost]; split <;> [rfl; (split <;> simp [preheatToReduce])]
@[simp] theorem preheatLost_pending (s : State) : (preheatLost s).pending = s.pending := by simp only [preheatLost]; split <;> [rfl; (split <;> simp [preheatToReduce])]
@[simp] theorem preheatLost_out_status (s : State) : (preheatLost s).out.status = s.out.status := by simp only [preheatLost]; split <;> [rfl; (split <;> simp [preheatToReduce])]
@[simp] theorem preheatLost_out_test (s : State) : (preheatLost s).out.test = s.out.test := by simp only [preheatLost]; split <;> [rfl; (split <;> simp [preheatToReduce])]
@[simp] theorem preheatLost_out_terms (s : State) : (preheatLost s).out.terms = s.out.terms := by simp only [preheatLost]; split <;> [rfl; (split <;> simp [preheatToReduce])]

/-! noticeEligibility -/

@[simp] theorem noticeEligibility_power (s : State) : (noticeEligibility s).power = s.power := by simp only [noticeEligibility]; (repeat' split) <;> simp
@[simp] theorem noticeEligibility_line (s : State) : (noticeEligibility s).line = s.line := by simp only [noticeEligibility]; (repeat' split) <;> simp
@[simp] theorem noticeEligibility_peers (s : State) : (noticeEligibility s).peers = s.peers := by simp only [noticeEligibility]; (repeat' split) <;> simp
@[simp] theorem noticeEligibility_join (s : State) : (noticeEligibility s).join = s.join := by simp only [noticeEligibility]; (repeat' split) <;> simp
@[simp] theorem noticeEligibility_mode (s : State) : (noticeEligibility s).mode = s.mode := by simp only [noticeEligibility]; (repeat' split) <;> simp
@[simp] theorem noticeEligibility_plan (s : State) : (noticeEligibility s).plan = s.plan := by simp only [noticeEligibility]; (repeat' split) <;> simp
@[simp] theorem noticeEligibility_supplyFan (s : State) : (noticeEligibility s).supplyFan = s.supplyFan := by simp only [noticeEligibility]; (repeat' split) <;> simp
@[simp] theorem noticeEligibility_extractFan (s : State) : (noticeEligibility s).extractFan = s.extractFan := by simp only [noticeEligibility]; (repeat' split) <;> simp
@[simp] theorem noticeEligibility_stack (s : State) : (noticeEligibility s).stack = s.stack := by simp only [noticeEligibility]; (repeat' split) <;> simp
@[simp] theorem noticeEligibility_queue (s : State) : (noticeEligibility s).queue = s.queue := by simp only [noticeEligibility]; (repeat' split) <;> simp
@[simp] theorem noticeEligibility_humid (s : State) : (noticeEligibility s).humid = s.humid := by simp only [noticeEligibility]; (repeat' split) <;> simp
@[simp] theorem noticeEligibility_filters (s : State) : (noticeEligibility s).filters = s.filters := by simp only [noticeEligibility]; (repeat' split) <;> simp
@[simp] theorem noticeEligibility_nv (s : State) : (noticeEligibility s).nv = s.nv := by simp only [noticeEligibility]; (repeat' split) <;> simp
@[simp] theorem noticeEligibility_torn (s : State) : (noticeEligibility s).torn = s.torn := by simp only [noticeEligibility]; (repeat' split) <;> simp
@[simp] theorem noticeEligibility_clock (s : State) : (noticeEligibility s).clock = s.clock := by simp only [noticeEligibility]; (repeat' split) <;> simp
@[simp] theorem noticeEligibility_sensors (s : State) : (noticeEligibility s).sensors = s.sensors := by simp only [noticeEligibility]; (repeat' split) <;> simp
@[simp] theorem noticeEligibility_lamp (s : State) : (noticeEligibility s).lamp = s.lamp := by simp only [noticeEligibility]; (repeat' split) <;> simp
@[simp] theorem noticeEligibility_panel (s : State) : (noticeEligibility s).panel = s.panel := by simp only [noticeEligibility]; (repeat' split) <;> simp
@[simp] theorem noticeEligibility_events (s : State) : (noticeEligibility s).events = s.events := by simp only [noticeEligibility]; (repeat' split) <;> simp
@[simp] theorem noticeEligibility_pending (s : State) : (noticeEligibility s).pending = s.pending := by simp only [noticeEligibility]; (repeat' split) <;> simp
@[simp] theorem noticeEligibility_out_status (s : State) : (noticeEligibility s).out.status = s.out.status := by simp only [noticeEligibility]; (repeat' split) <;> simp
@[simp] theorem noticeEligibility_out_test (s : State) : (noticeEligibility s).out.test = s.out.test := by simp only [noticeEligibility]; (repeat' split) <;> simp
@[simp] theorem noticeEligibility_out_terms (s : State) : (noticeEligibility s).out.terms = s.out.terms := by simp only [noticeEligibility]; (repeat' split) <;> simp

/-! noticeFan -/

@[simp] theorem noticeFan_power (s : State) : (noticeFan s).power = s.power := by unfold noticeFan; split <;> simp [preheatToReduce]
@[simp] theorem noticeFan_line (s : State) : (noticeFan s).line = s.line := by unfold noticeFan; split <;> simp [preheatToReduce]
@[simp] theorem noticeFan_peers (s : State) : (noticeFan s).peers = s.peers := by unfold noticeFan; split <;> simp [preheatToReduce]
@[simp] theorem noticeFan_join (s : State) : (noticeFan s).join = s.join := by unfold noticeFan; split <;> simp [preheatToReduce]
@[simp] theorem noticeFan_mode (s : State) : (noticeFan s).mode = s.mode := by unfold noticeFan; split <;> simp [preheatToReduce]
@[simp] theorem noticeFan_plan (s : State) : (noticeFan s).plan = s.plan := by unfold noticeFan; split <;> simp [preheatToReduce]
@[simp] theorem noticeFan_supplyFan (s : State) : (noticeFan s).supplyFan = s.supplyFan := by unfold noticeFan; split <;> simp [preheatToReduce]
@[simp] theorem noticeFan_extractFan (s : State) : (noticeFan s).extractFan = s.extractFan := by unfold noticeFan; split <;> simp [preheatToReduce]
@[simp] theorem noticeFan_stack (s : State) : (noticeFan s).stack = s.stack := by unfold noticeFan; split <;> simp [preheatToReduce]
@[simp] theorem noticeFan_queue (s : State) : (noticeFan s).queue = s.queue := by unfold noticeFan; split <;> simp [preheatToReduce]
@[simp] theorem noticeFan_humid (s : State) : (noticeFan s).humid = s.humid := by unfold noticeFan; split <;> simp [preheatToReduce]
@[simp] theorem noticeFan_filters (s : State) : (noticeFan s).filters = s.filters := by unfold noticeFan; split <;> simp [preheatToReduce]
@[simp] theorem noticeFan_nv (s : State) : (noticeFan s).nv = s.nv := by unfold noticeFan; split <;> simp [preheatToReduce]
@[simp] theorem noticeFan_torn (s : State) : (noticeFan s).torn = s.torn := by unfold noticeFan; split <;> simp [preheatToReduce]
@[simp] theorem noticeFan_clock (s : State) : (noticeFan s).clock = s.clock := by unfold noticeFan; split <;> simp [preheatToReduce]
@[simp] theorem noticeFan_sensors (s : State) : (noticeFan s).sensors = s.sensors := by unfold noticeFan; split <;> simp [preheatToReduce]
@[simp] theorem noticeFan_lamp (s : State) : (noticeFan s).lamp = s.lamp := by unfold noticeFan; split <;> simp [preheatToReduce]
@[simp] theorem noticeFan_panel (s : State) : (noticeFan s).panel = s.panel := by unfold noticeFan; split <;> simp [preheatToReduce]
@[simp] theorem noticeFan_events (s : State) : (noticeFan s).events = s.events := by unfold noticeFan; split <;> simp [preheatToReduce]
@[simp] theorem noticeFan_pending (s : State) : (noticeFan s).pending = s.pending := by unfold noticeFan; split <;> simp [preheatToReduce]
@[simp] theorem noticeFan_out_status (s : State) : (noticeFan s).out.status = s.out.status := by unfold noticeFan; split <;> simp [preheatToReduce]
@[simp] theorem noticeFan_out_test (s : State) : (noticeFan s).out.test = s.out.test := by unfold noticeFan; split <;> simp [preheatToReduce]
@[simp] theorem noticeFan_out_terms (s : State) : (noticeFan s).out.terms = s.out.terms := by unfold noticeFan; split <;> simp [preheatToReduce]

/-! noticeStop -/

@[simp] theorem noticeStop_power (s : State) : (noticeStop s).power = s.power := by unfold noticeStop; split <;> rfl
@[simp] theorem noticeStop_line (s : State) : (noticeStop s).line = s.line := by unfold noticeStop; split <;> rfl
@[simp] theorem noticeStop_out (s : State) : (noticeStop s).out = s.out := by unfold noticeStop; split <;> rfl
@[simp] theorem noticeStop_peers (s : State) : (noticeStop s).peers = s.peers := by unfold noticeStop; split <;> rfl
@[simp] theorem noticeStop_join (s : State) : (noticeStop s).join = s.join := by unfold noticeStop; split <;> rfl
@[simp] theorem noticeStop_mode (s : State) : (noticeStop s).mode = s.mode := by unfold noticeStop; split <;> rfl
@[simp] theorem noticeStop_plan (s : State) : (noticeStop s).plan = s.plan := by unfold noticeStop; split <;> rfl
@[simp] theorem noticeStop_supplyFan (s : State) : (noticeStop s).supplyFan = s.supplyFan := by unfold noticeStop; split <;> rfl
@[simp] theorem noticeStop_extractFan (s : State) : (noticeStop s).extractFan = s.extractFan := by unfold noticeStop; split <;> rfl
@[simp] theorem noticeStop_stack (s : State) : (noticeStop s).stack = s.stack := by unfold noticeStop; split <;> rfl
@[simp] theorem noticeStop_frost (s : State) : (noticeStop s).frost = s.frost := by unfold noticeStop; split <;> rfl
@[simp] theorem noticeStop_queue (s : State) : (noticeStop s).queue = s.queue := by unfold noticeStop; split <;> rfl
@[simp] theorem noticeStop_own (s : State) : (noticeStop s).own = s.own := by unfold noticeStop; split <;> rfl
@[simp] theorem noticeStop_filters (s : State) : (noticeStop s).filters = s.filters := by unfold noticeStop; split <;> rfl
@[simp] theorem noticeStop_nv (s : State) : (noticeStop s).nv = s.nv := by unfold noticeStop; split <;> rfl
@[simp] theorem noticeStop_torn (s : State) : (noticeStop s).torn = s.torn := by unfold noticeStop; split <;> rfl
@[simp] theorem noticeStop_clock (s : State) : (noticeStop s).clock = s.clock := by unfold noticeStop; split <;> rfl
@[simp] theorem noticeStop_sensors (s : State) : (noticeStop s).sensors = s.sensors := by unfold noticeStop; split <;> rfl
@[simp] theorem noticeStop_lamp (s : State) : (noticeStop s).lamp = s.lamp := by unfold noticeStop; split <;> rfl
@[simp] theorem noticeStop_panel (s : State) : (noticeStop s).panel = s.panel := by unfold noticeStop; split <;> rfl
@[simp] theorem noticeStop_events (s : State) : (noticeStop s).events = s.events := by unfold noticeStop; split <;> rfl
@[simp] theorem noticeStop_pending (s : State) : (noticeStop s).pending = s.pending := by unfold noticeStop; split <;> rfl

/-! noticeRound -/

@[simp] theorem noticeRound_power (s : State) : (noticeRound s).power = s.power := by simp [noticeRound]
@[simp] theorem noticeRound_line (s : State) : (noticeRound s).line = s.line := by simp [noticeRound]
@[simp] theorem noticeRound_peers (s : State) : (noticeRound s).peers = s.peers := by simp [noticeRound]
@[simp] theorem noticeRound_join (s : State) : (noticeRound s).join = s.join := by simp [noticeRound]
@[simp] theorem noticeRound_mode (s : State) : (noticeRound s).mode = s.mode := by simp [noticeRound]
@[simp] theorem noticeRound_queue (s : State) : (noticeRound s).queue = s.queue := by simp [noticeRound]
@[simp] theorem noticeRound_filters (s : State) : (noticeRound s).filters = s.filters := by simp [noticeRound]
@[simp] theorem noticeRound_nv (s : State) : (noticeRound s).nv = s.nv := by simp [noticeRound]
@[simp] theorem noticeRound_torn (s : State) : (noticeRound s).torn = s.torn := by simp [noticeRound]
@[simp] theorem noticeRound_clock (s : State) : (noticeRound s).clock = s.clock := by simp [noticeRound]
@[simp] theorem noticeRound_sensors (s : State) : (noticeRound s).sensors = s.sensors := by simp [noticeRound]
@[simp] theorem noticeRound_lamp (s : State) : (noticeRound s).lamp = s.lamp := by simp [noticeRound]
@[simp] theorem noticeRound_panel (s : State) : (noticeRound s).panel = s.panel := by simp [noticeRound]
@[simp] theorem noticeRound_pending (s : State) : (noticeRound s).pending = s.pending := by simp [noticeRound]
@[simp] theorem noticeRound_out_status (s : State) : (noticeRound s).out.status = s.out.status := by simp [noticeRound]
@[simp] theorem noticeRound_out_test (s : State) : (noticeRound s).out.test = s.out.test := by simp [noticeRound]
@[simp] theorem noticeRound_out_terms (s : State) : (noticeRound s).out.terms = s.out.terms := by simp [noticeRound]

/-! followPreheater -/

@[simp] theorem followPreheater_power (s : State) : (followPreheater s).power = s.power := rfl
@[simp] theorem followPreheater_line (s : State) : (followPreheater s).line = s.line := rfl
@[simp] theorem followPreheater_out (s : State) : (followPreheater s).out = s.out := rfl
@[simp] theorem followPreheater_peers (s : State) : (followPreheater s).peers = s.peers := rfl
@[simp] theorem followPreheater_join (s : State) : (followPreheater s).join = s.join := rfl
@[simp] theorem followPreheater_mode (s : State) : (followPreheater s).mode = s.mode := rfl
@[simp] theorem followPreheater_plan (s : State) : (followPreheater s).plan = s.plan := rfl
@[simp] theorem followPreheater_supplyFan (s : State) : (followPreheater s).supplyFan = s.supplyFan := rfl
@[simp] theorem followPreheater_extractFan (s : State) : (followPreheater s).extractFan = s.extractFan := rfl
@[simp] theorem followPreheater_stack (s : State) : (followPreheater s).stack = s.stack := rfl
@[simp] theorem followPreheater_queue (s : State) : (followPreheater s).queue = s.queue := rfl
@[simp] theorem followPreheater_own (s : State) : (followPreheater s).own = s.own := rfl
@[simp] theorem followPreheater_humid (s : State) : (followPreheater s).humid = s.humid := rfl
@[simp] theorem followPreheater_filters (s : State) : (followPreheater s).filters = s.filters := rfl
@[simp] theorem followPreheater_nv (s : State) : (followPreheater s).nv = s.nv := rfl
@[simp] theorem followPreheater_torn (s : State) : (followPreheater s).torn = s.torn := rfl
@[simp] theorem followPreheater_clock (s : State) : (followPreheater s).clock = s.clock := rfl
@[simp] theorem followPreheater_sensors (s : State) : (followPreheater s).sensors = s.sensors := rfl
@[simp] theorem followPreheater_lamp (s : State) : (followPreheater s).lamp = s.lamp := rfl
@[simp] theorem followPreheater_panel (s : State) : (followPreheater s).panel = s.panel := rfl
@[simp] theorem followPreheater_events (s : State) : (followPreheater s).events = s.events := rfl
@[simp] theorem followPreheater_pending (s : State) : (followPreheater s).pending = s.pending := rfl

/-! followMarks -/

@[simp] theorem followMarks_power (s : State) : (followMarks s).power = s.power := rfl
@[simp] theorem followMarks_line (s : State) : (followMarks s).line = s.line := rfl
@[simp] theorem followMarks_out (s : State) : (followMarks s).out = s.out := rfl
@[simp] theorem followMarks_peers (s : State) : (followMarks s).peers = s.peers := rfl
@[simp] theorem followMarks_join (s : State) : (followMarks s).join = s.join := rfl
@[simp] theorem followMarks_mode (s : State) : (followMarks s).mode = s.mode := rfl
@[simp] theorem followMarks_plan (s : State) : (followMarks s).plan = s.plan := rfl
@[simp] theorem followMarks_supplyFan (s : State) : (followMarks s).supplyFan = s.supplyFan := rfl
@[simp] theorem followMarks_extractFan (s : State) : (followMarks s).extractFan = s.extractFan := rfl
@[simp] theorem followMarks_stack (s : State) : (followMarks s).stack = s.stack := rfl
@[simp] theorem followMarks_frost (s : State) : (followMarks s).frost = s.frost := rfl
@[simp] theorem followMarks_queue (s : State) : (followMarks s).queue = s.queue := rfl
@[simp] theorem followMarks_own (s : State) : (followMarks s).own = s.own := rfl
@[simp] theorem followMarks_humid (s : State) : (followMarks s).humid = s.humid := rfl
@[simp] theorem followMarks_nv (s : State) : (followMarks s).nv = s.nv := rfl
@[simp] theorem followMarks_torn (s : State) : (followMarks s).torn = s.torn := rfl
@[simp] theorem followMarks_clock (s : State) : (followMarks s).clock = s.clock := rfl
@[simp] theorem followMarks_sensors (s : State) : (followMarks s).sensors = s.sensors := rfl
@[simp] theorem followMarks_lamp (s : State) : (followMarks s).lamp = s.lamp := rfl
@[simp] theorem followMarks_panel (s : State) : (followMarks s).panel = s.panel := rfl
@[simp] theorem followMarks_events (s : State) : (followMarks s).events = s.events := rfl
@[simp] theorem followMarks_pending (s : State) : (followMarks s).pending = s.pending := rfl

/-! followLamp -/

@[simp] theorem followLamp_power (s : State) : (followLamp s).power = s.power := by simp only [followLamp]; split <;> rfl
@[simp] theorem followLamp_line (s : State) : (followLamp s).line = s.line := by simp only [followLamp]; split <;> rfl
@[simp] theorem followLamp_out (s : State) : (followLamp s).out = s.out := by simp only [followLamp]; split <;> rfl
@[simp] theorem followLamp_peers (s : State) : (followLamp s).peers = s.peers := by simp only [followLamp]; split <;> rfl
@[simp] theorem followLamp_join (s : State) : (followLamp s).join = s.join := by simp only [followLamp]; split <;> rfl
@[simp] theorem followLamp_mode (s : State) : (followLamp s).mode = s.mode := by simp only [followLamp]; split <;> rfl
@[simp] theorem followLamp_plan (s : State) : (followLamp s).plan = s.plan := by simp only [followLamp]; split <;> rfl
@[simp] theorem followLamp_supplyFan (s : State) : (followLamp s).supplyFan = s.supplyFan := by simp only [followLamp]; split <;> rfl
@[simp] theorem followLamp_extractFan (s : State) : (followLamp s).extractFan = s.extractFan := by simp only [followLamp]; split <;> rfl
@[simp] theorem followLamp_stack (s : State) : (followLamp s).stack = s.stack := by simp only [followLamp]; split <;> rfl
@[simp] theorem followLamp_frost (s : State) : (followLamp s).frost = s.frost := by simp only [followLamp]; split <;> rfl
@[simp] theorem followLamp_queue (s : State) : (followLamp s).queue = s.queue := by simp only [followLamp]; split <;> rfl
@[simp] theorem followLamp_own (s : State) : (followLamp s).own = s.own := by simp only [followLamp]; split <;> rfl
@[simp] theorem followLamp_humid (s : State) : (followLamp s).humid = s.humid := by simp only [followLamp]; split <;> rfl
@[simp] theorem followLamp_filters (s : State) : (followLamp s).filters = s.filters := by simp only [followLamp]; split <;> rfl
@[simp] theorem followLamp_nv (s : State) : (followLamp s).nv = s.nv := by simp only [followLamp]; split <;> rfl
@[simp] theorem followLamp_torn (s : State) : (followLamp s).torn = s.torn := by simp only [followLamp]; split <;> rfl
@[simp] theorem followLamp_clock (s : State) : (followLamp s).clock = s.clock := by simp only [followLamp]; split <;> rfl
@[simp] theorem followLamp_sensors (s : State) : (followLamp s).sensors = s.sensors := by simp only [followLamp]; split <;> rfl
@[simp] theorem followLamp_panel (s : State) : (followLamp s).panel = s.panel := by simp only [followLamp]; split <;> rfl
@[simp] theorem followLamp_events (s : State) : (followLamp s).events = s.events := by simp only [followLamp]; split <;> rfl
@[simp] theorem followLamp_pending (s : State) : (followLamp s).pending = s.pending := by simp only [followLamp]; split <;> rfl

/-! followOutputs -/

@[simp] theorem followOutputs_power (s : State) : (followOutputs s).power = s.power := by simp [followOutputs]
@[simp] theorem followOutputs_line (s : State) : (followOutputs s).line = s.line := by simp [followOutputs]
@[simp] theorem followOutputs_out (s : State) : (followOutputs s).out = s.out := by simp [followOutputs]
@[simp] theorem followOutputs_peers (s : State) : (followOutputs s).peers = s.peers := by simp [followOutputs]
@[simp] theorem followOutputs_join (s : State) : (followOutputs s).join = s.join := by simp [followOutputs]
@[simp] theorem followOutputs_mode (s : State) : (followOutputs s).mode = s.mode := by simp [followOutputs]
@[simp] theorem followOutputs_plan (s : State) : (followOutputs s).plan = s.plan := by simp [followOutputs]
@[simp] theorem followOutputs_supplyFan (s : State) : (followOutputs s).supplyFan = s.supplyFan := by simp [followOutputs]
@[simp] theorem followOutputs_extractFan (s : State) : (followOutputs s).extractFan = s.extractFan := by simp [followOutputs]
@[simp] theorem followOutputs_stack (s : State) : (followOutputs s).stack = s.stack := by simp [followOutputs]
@[simp] theorem followOutputs_queue (s : State) : (followOutputs s).queue = s.queue := by simp [followOutputs]
@[simp] theorem followOutputs_own (s : State) : (followOutputs s).own = s.own := by simp [followOutputs]
@[simp] theorem followOutputs_humid (s : State) : (followOutputs s).humid = s.humid := by simp [followOutputs]
@[simp] theorem followOutputs_nv (s : State) : (followOutputs s).nv = s.nv := by simp [followOutputs]
@[simp] theorem followOutputs_torn (s : State) : (followOutputs s).torn = s.torn := by simp [followOutputs]
@[simp] theorem followOutputs_clock (s : State) : (followOutputs s).clock = s.clock := by simp [followOutputs]
@[simp] theorem followOutputs_sensors (s : State) : (followOutputs s).sensors = s.sensors := by simp [followOutputs]
@[simp] theorem followOutputs_panel (s : State) : (followOutputs s).panel = s.panel := by simp [followOutputs]
@[simp] theorem followOutputs_events (s : State) : (followOutputs s).events = s.events := by simp [followOutputs]
@[simp] theorem followOutputs_pending (s : State) : (followOutputs s).pending = s.pending := by simp [followOutputs]

/-! settle -/

@[simp] theorem settle_power (s : State) : (settle s).power = s.power := by simp [settle]
@[simp] theorem settle_line (s : State) : (settle s).line = s.line := by simp [settle]
@[simp] theorem settle_peers (s : State) : (settle s).peers = s.peers := by simp [settle]
@[simp] theorem settle_join (s : State) : (settle s).join = s.join := by simp [settle]
@[simp] theorem settle_mode (s : State) : (settle s).mode = s.mode := by simp [settle]
@[simp] theorem settle_queue (s : State) : (settle s).queue = s.queue := by simp [settle]
@[simp] theorem settle_nv (s : State) : (settle s).nv = s.nv := by simp [settle]
@[simp] theorem settle_torn (s : State) : (settle s).torn = s.torn := by simp [settle]
@[simp] theorem settle_clock (s : State) : (settle s).clock = s.clock := by simp [settle]
@[simp] theorem settle_sensors (s : State) : (settle s).sensors = s.sensors := by simp [settle]
@[simp] theorem settle_panel (s : State) : (settle s).panel = s.panel := by simp [settle]
@[simp] theorem settle_pending (s : State) : (settle s).pending = s.pending := by simp [settle]
@[simp] theorem settle_out_status (s : State) : (settle s).out.status = s.out.status := by simp [settle]
@[simp] theorem settle_out_test (s : State) : (settle s).out.test = s.out.test := by simp [settle]
@[simp] theorem settle_out_terms (s : State) : (settle s).out.terms = s.out.terms := by simp [settle]

end Sys2Proof.Machine
end

