-- ==== Sys2Proof/Laws/Settle.lean ====
section
/-! SUPPORT. What the end of an event does (settle): the lemmas that the proofs about whole commands cite. -/

namespace Sys2Proof.Machine

/-! ### Event flags -/

/-- Raising a flag keeps every flag that was raised. -/
theorem raise_keeps (f g : EventFlag) (s : State) (h : raised g s = true) : raised g (raise f s) = true := by
  simp only [raised, raise, BitVec.getLsbD_or] at *
  simp [h]

theorem raise_raised (f : EventFlag) (s : State) : raised f (raise f s) = true := by
  cases f <;> simp [raised, raise, EventFlag.place]

theorem raiseIf_keeps (c : Bool) (f g : EventFlag) (s : State) (h : raised g s = true) :
    raised g (raiseIf c f s) = true := by
  unfold raiseIf
  split
  · exact raise_keeps f g s h
  · exact h

theorem checkLimit_keeps (g : EventFlag) (s : State) (h : raised g s = true) : raised g (checkLimit s) = true := by
  unfold checkLimit
  split
  · exact raise_keeps _ g _ h
  · exact h

theorem composeOnce_keeps (g : EventFlag) (s : State) (h : raised g s = true) : raised g (composeOnce s) = true := by
  simpa [raised, composeOnce_events] using h

theorem compose_keeps (g : EventFlag) (s : State) (h : raised g s = true) : raised g (compose s) = true := by
  simp only [compose]
  split
  · exact composeOnce_keeps g s h
  · exact composeOnce_keeps g _ (checkLimit_keeps g _ (composeOnce_keeps g s h))

theorem evaluate_keeps (g : EventFlag) (s : State) (h : raised g s = true) : raised g (evaluate s) = true := by
  simp only [evaluate]
  split
  · exact checkLimit_keeps g s h
  · exact compose_keeps g _ (checkLimit_keeps g s h)

theorem noticeRound_keeps (g : EventFlag) (s : State) (h : raised g s = true) : raised g (noticeRound s) = true := by
  unfold noticeRound handTargets
  exact raiseIf_keeps _ _ g _ (compose_keeps g _ (by simpa [raised] using h))

/-- The end of an event clears no event flag (R188: only EVENTS_CLEAR does). -/
theorem settle_keeps (g : EventFlag) (s : State) (h : raised g s = true) : raised g (settle s) = true := by
  have h4 := noticeRound_keeps g _ (noticeRound_keeps g _ (noticeRound_keeps g _ (noticeRound_keeps g s h)))
  simpa [settle, raised] using h4

/-! ### Eligibility (R135) -/

/-- The eligibility depends on the membership and straps, the line condition and the queue copy alone. -/
theorem eligibleNow_congr {s t : State} (hj : t.join = s.join) (hl : t.line = s.line) (hq : t.queue = s.queue) :
    eligibleNow t = eligibleNow s := by
  simp [eligibleNow, ownNumber, granted, kEff, hj, hl, hq]

@[simp] theorem eligibleNow_settle (s : State) : eligibleNow (settle s) = eligibleNow s :=
  eligibleNow_congr (by simp) (by simp) (by simp)

@[simp] theorem eligibleNow_followOutputs (s : State) : eligibleNow (followOutputs s) = eligibleNow s :=
  eligibleNow_congr (by simp) (by simp) (by simp)

@[simp] theorem eligibleNow_noticeRound (s : State) : eligibleNow (noticeRound s) = eligibleNow s :=
  eligibleNow_congr (by simp) (by simp) (by simp)

@[simp] theorem requestGive_eligible (s : State) : (requestGive s).own.eligible = s.own.eligible := by
  unfold requestGive; split <;> rfl

@[simp] theorem giveUp_eligible (s : State) : (giveUp s).own.eligible = s.own.eligible := by
  unfold giveUp; split <;> [rfl; (split <;> [simp; (split <;> simp)])]

@[simp] theorem requestTake_eligible (s : State) : (requestTake s).own.eligible = s.own.eligible := by
  unfold requestTake; split <;> rfl

@[simp] theorem reduceEligible_eligible (s : State) : (reduceEligible s).own.eligible = s.own.eligible := by
  unfold reduceEligible; split <;> simp [toPreheat]

@[simp] theorem preheatLost_eligible (s : State) : (preheatLost s).own.eligible = s.own.eligible := by
  simp only [preheatLost]; split <;> [rfl; (split <;> simp [preheatToReduce])]

theorem noticeEligibility_told (s : State) : (noticeEligibility s).own.eligible = eligibleNow s := by
  simp only [noticeEligibility]
  split
  · rename_i h; exact h.symm
  · split
    · split <;> simp
    · split <;> simp

@[simp] theorem noticeFan_eligible (s : State) : (noticeFan s).own.eligible = s.own.eligible := by
  unfold noticeFan; split <;> simp [preheatToReduce]

@[simp] theorem noticeRound_eligible (s : State) : (noticeRound s).own.eligible = eligibleNow s := by
  simp [noticeRound, noticeEligibility_told]

/-- After an event the frost guard has been told the eligibility as it stands (R135). -/
theorem settle_told (s : State) : told (settle s) := by
  simp [told, settle]

/-! ### Frost stage -/

/-- The stages and BLIND, in which an eligibility and the supply fan change nothing (R100, R103, R104). -/
def frostAtRest (s : State) : Prop :=
  s.frost.stage ≠ .preheat ∧ (s.frost.stage = .reduce → s.frost.blind = true ∨ s.own.eligible = eligibleNow s)

theorem noticeEligibility_frost {s : State} (h : frostAtRest s) : (noticeEligibility s).frost = s.frost := by
  obtain ⟨h1, h2⟩ := h
  simp only [noticeEligibility]
  split
  · rfl
  · rename_i hne
    split
    · split
      · rename_i hr
        simp only [Bool.and_eq_true, decide_eq_true_eq, Bool.not_eq_true'] at hr
        rcases h2 hr.1 with hb | he
        · rw [hr.2] at hb; cases hb
        · exact absurd he.symm hne
      · rfl
    · simp

theorem noticeFan_frost {s : State} (h : s.frost.stage ≠ .preheat) : (noticeFan s).frost = s.frost := by
  simp [noticeFan, h]

theorem noticeRound_frost {s : State} (h : frostAtRest s) : (noticeRound s).frost = s.frost := by
  have h1 := noticeEligibility_frost h
  have h2 : (noticeFan (noticeEligibility s)).frost = s.frost := by
    rw [noticeFan_frost (by rw [h1]; exact h.1), h1]
  simp [noticeRound, h2]

theorem noticeRound_atRest {s : State} (h : frostAtRest s) : frostAtRest (noticeRound s) := by
  refine ⟨by rw [noticeRound_frost h]; exact h.1, fun _ => Or.inr ?_⟩
  simp

/-- In CLEAR, WATCH, STOP, and in REDUCE with BLIND or with the eligibility told, the end of an event leaves the frost guard
as it stands, its output off (R110). -/
theorem settle_frost {s : State} (h : frostAtRest s) : (settle s).frost = { s.frost with preheater := false } := by
  have a1 := noticeRound_atRest h
  have a2 := noticeRound_atRest a1
  have a3 := noticeRound_atRest a2
  have e : (noticeRound (noticeRound (noticeRound (noticeRound s)))).frost = s.frost := by
    rw [noticeRound_frost a3, noticeRound_frost a2, noticeRound_frost a1, noticeRound_frost h]
  have hs : s.frost.stage ≠ .preheat := h.1
  simp [settle, followOutputs, followPreheater, e, hs]

/-- The fields of the frost guard that no notice moves: T_lim, the re-take wait and the thaw timer. -/
def frostSteady (s t : State) : Prop :=
  t.frost.tLim = s.frost.tLim ∧ t.frost.reTake = s.frost.reTake ∧ t.frost.thawTimer = s.frost.thawTimer
    ∧ (t.frost.stage = .stop ↔ s.frost.stage = .stop) ∧ (t.frost.stage = .clear ↔ s.frost.stage = .clear)
    ∧ (t.frost.stage = .watch ↔ s.frost.stage = .watch) ∧ t.frost.blind = s.frost.blind

theorem frostSteady_refl (s : State) : frostSteady s s := by simp [frostSteady]

theorem frostSteady_trans {s t u : State} (h1 : frostSteady s t) (h2 : frostSteady t u) : frostSteady s u := by
  unfold frostSteady at *
  simp_all

theorem noticeEligibility_steady (s : State) : frostSteady s (noticeEligibility s) := by
  simp only [noticeEligibility]
  split
  · exact frostSteady_refl s
  · split
    · split
      · rename_i hr
        simp only [Bool.and_eq_true, decide_eq_true_eq, Bool.not_eq_true'] at hr
        unfold reduceEligible
        split <;> simp [frostSteady, toPreheat, hr.1]
      · simp [frostSteady]
    · split
      · rename_i hp
        simp only [preheatLost]
        split
        · simp [frostSteady, preheatToReduce, hp]
        · split <;> simp [frostSteady, preheatToReduce, hp]
      · simp [frostSteady]

theorem noticeFan_steady (s : State) : frostSteady s (noticeFan s) := by
  unfold noticeFan
  split
  · rename_i hp
    simp only [Bool.and_eq_true, decide_eq_true_eq] at hp
    simp [frostSteady, preheatToReduce, hp.1]
  · exact frostSteady_refl s

theorem noticeRound_steady (s : State) : frostSteady s (noticeRound s) := by
  have h := frostSteady_trans (noticeEligibility_steady s) (noticeFan_steady (noticeEligibility s))
  unfold frostSteady at *
  simpa [noticeRound] using h

theorem settle_steady (s : State) : frostSteady s (settle s) := by
  have h := frostSteady_trans (noticeRound_steady s) (frostSteady_trans (noticeRound_steady _)
    (frostSteady_trans (noticeRound_steady _) (noticeRound_steady _)))
  unfold frostSteady at *
  simpa [settle, followOutputs, followPreheater] using h

@[simp] theorem settle_tLim (s : State) : (settle s).frost.tLim = s.frost.tLim := (settle_steady s).1

@[simp] theorem settle_reTake (s : State) : (settle s).frost.reTake = s.frost.reTake := (settle_steady s).2.1

@[simp] theorem settle_thawTimer (s : State) : (settle s).frost.thawTimer = s.frost.thawTimer := (settle_steady s).2.2.1

theorem settle_stop (s : State) : (settle s).frost.stage = .stop ↔ s.frost.stage = .stop := (settle_steady s).2.2.2.1

/-! ### Preheater, indicator, filters, humidity -/

theorem settle_preheater (s : State) :
    (settle s).frost.preheater =
      ((settle s).frost.stage = .preheat && (settle s).supplyFan.state = .running && eligibleNow (settle s)) := by
  rw [eligibleNow_settle]
  simp [settle, followOutputs, followPreheater]

theorem settle_lamp (s : State) : lampRuled (settle s) := by
  simp only [lampRuled, settle, followOutputs, followLamp]
  split
  · rename_i h; exact h.symm
  · simp [lampLevel]

/-- Of the filter unit the end of an event moves only the marks: spoiled, and the two minutes that still qualify. -/
theorem settle_filters (s : State) :
    (settle s).filters = { s.filters with
      spoiled := (settle s).filters.spoiled, supplyMinute := (settle s).filters.supplyMinute,
      extractMinute := (settle s).filters.extractMinute } := by
  simp [settle, followOutputs, followMarks]

@[simp] theorem settle_filter_supply (s : State) : (settle s).filters.supply = s.filters.supply := by
  rw [settle_filters]

@[simp] theorem settle_filter_extract (s : State) : (settle s).filters.extract = s.filters.extract := by
  rw [settle_filters]

@[simp] theorem settle_filters_trim (s : State) : (settle s).filters.trim = s.filters.trim := by rw [settle_filters]

@[simp] theorem settle_filters_save (s : State) : (settle s).filters.save = s.filters.save := by rw [settle_filters]

@[simp] theorem settle_filters_restored (s : State) : (settle s).filters.restored = s.filters.restored := by
  rw [settle_filters]

@[simp] theorem settle_filters_minuteTimer (s : State) : (settle s).filters.minuteTimer = s.filters.minuteTimer := by
  rw [settle_filters]

@[simp] theorem settle_filters_minuteCount (s : State) : (settle s).filters.minuteCount = s.filters.minuteCount := by
  rw [settle_filters]

@[simp] theorem settle_filters_period (s : State) : (settle s).filters.period = s.filters.period := by rw [settle_filters]

@[simp] theorem settle_filters_fromFloor (s : State) : (settle s).filters.fromFloor = s.filters.fromFloor := by
  rw [settle_filters]

@[simp] theorem settle_filterOf (s : State) (d : Side) : filterOf (settle s) d = filterOf s d := by
  cases d <;> simp [filterOf]

/-- The indicator has no part in the filter unit's marks. -/
theorem followLamp_keeps (s : State) :
    (followLamp s).filters = s.filters ∧ unsteady (followLamp s) = unsteady s ∧ ∀ d, fanOf (followLamp s) d = fanOf s d := by
  unfold followLamp
  dsimp only
  split
  · exact ⟨rfl, rfl, fun _ => rfl⟩
  · exact ⟨rfl, rfl, fun d => by cases d <;> rfl⟩

/-- The spoiled mark follows the state the event leaves (R160). -/
theorem settle_spoiled (s : State) : (settle s).filters.spoiled = (s.filters.spoiled || unsteady (settle s)) := by
  unfold settle followOutputs
  have marks : ∀ u : State, (followMarks u).filters.spoiled = (u.filters.spoiled || unsteady (followMarks u)) := fun _ => rfl
  rw [(followLamp_keeps _).1, (followLamp_keeps _).2.1, marks]
  simp only [followPreheater, noticeRound_filters]

/-- A minute goes on qualifying while its fan is RUNNING in the state the event leaves (R154). -/
theorem settle_minuteKept (s : State) (d : Side) :
    minuteKept (settle s) d = (minuteKept s d && decide ((fanOf (settle s) d).state = .running)) := by
  have marks : ∀ u : State, minuteKept (followMarks u) d =
      (minuteKept u d && decide ((fanOf (followMarks u) d).state = .running)) := fun _ => by cases d <;> rfl
  have lamp : ∀ u : State, minuteKept (followLamp u) d = minuteKept u d := fun u => by
    cases d <;> simp [minuteKept]
  have pre : ∀ u : State, u.filters = s.filters → minuteKept (followPreheater u) d = minuteKept s d := fun u h => by
    cases d <;> simp [minuteKept, followPreheater, h]
  unfold settle followOutputs
  rw [lamp, (followLamp_keeps _).2.2 d, marks, pre _ (by simp only [noticeRound_filters])]

theorem noticeRound_humid {s : State} (h : s.frost.stage ≠ .stop) :
    (noticeRound s).humid = { s.humid with frostStop := false } := by
  have h1 := frostSteady_trans (noticeEligibility_steady s) (noticeFan_steady _)
  have hs : (noticeFan (noticeEligibility s)).frost.stage ≠ .stop := fun e => h (h1.2.2.2.1.mp e)
  simp [noticeRound, noticeStop, hs]

theorem noticeRound_humid_stop {s : State} (h : s.frost.stage = .stop) :
    (noticeRound s).humid = { s.humid.toIdle with frostStop := true } := by
  have h1 := frostSteady_trans (noticeEligibility_steady s) (noticeFan_steady _)
  have hs : (noticeFan (noticeEligibility s)).frost.stage = .stop := h1.2.2.2.1.mpr h
  simp [noticeRound, noticeStop, hs]

theorem noticeRound_stop (s : State) : (noticeRound s).frost.stage = .stop ↔ s.frost.stage = .stop :=
  (noticeRound_steady s).2.2.2.1

/-- Outside STOP the end of an event leaves the humidity monitor as it stands, its frost stop input clear (R147). -/
theorem settle_humid {s : State} (h : s.frost.stage ≠ .stop) : (settle s).humid = { s.humid with frostStop := false } := by
  have n1 : (noticeRound s).frost.stage ≠ .stop := fun e => h ((noticeRound_stop s).mp e)
  have n2 : (noticeRound (noticeRound s)).frost.stage ≠ .stop := fun e => n1 ((noticeRound_stop _).mp e)
  have n3 : (noticeRound (noticeRound (noticeRound s))).frost.stage ≠ .stop := fun e => n2 ((noticeRound_stop _).mp e)
  simp [settle, noticeRound_humid n3, noticeRound_humid n2, noticeRound_humid n1, noticeRound_humid h]

/-- In STOP the humidity state is IDLE (R147). -/
theorem settle_humid_stop {s : State} (h : s.frost.stage = .stop) :
    (settle s).humid = { s.humid.toIdle with frostStop := true } := by
  have n1 := (noticeRound_stop s).mpr h
  have n2 := (noticeRound_stop _).mpr n1
  have n3 := (noticeRound_stop _).mpr n2
  simp [settle, noticeRound_humid_stop n3, noticeRound_humid_stop n2, noticeRound_humid_stop n1, noticeRound_humid_stop h,
    Humid.toIdle]

end Sys2Proof.Machine
end

