-- ==== Sys2Proof/Laws/Line.lean ====
section
/-! SUPPORT. What taking a frame does beside its consumer's work, what stays of the outgoing set when an event ends on a line
that is not CLEAR, and where an entry stands after the queue copy placed it. -/

namespace Sys2Proof.Machine

/-! ### A valid frame is heard (R8, R10, R14, R19, R20) -/

/-- What hearing a valid frame does, whole. -/
theorem heard_eq (j : Station) (s : State) :
    heard j s =
      if s.line.condition = .doubt ∧ s.line.errors ≤ 1 then
        evaluate { s with line := { s.line with lastSender := j, idle := false, slotTime := none,
                                                errors := s.line.errors - 1, condition := .clear } }
      else { s with line := { s.line with lastSender := j, idle := false, slotTime := none, errors := s.line.errors - 1 } } := by
  simp only [heard, errorDown, busy, leaveDoubt, setCondition]
  by_cases h : s.line.condition = .doubt <;> by_cases h2 : s.line.errors ≤ 1
  · have : s.line.errors - 1 = 0 := by omega
    simp [h, h2, this]
  · have : s.line.errors - 1 ≠ 0 := by omega
    simp [h, h2, this]
  · simp [h]
  · simp [h]
@[simp] theorem heard_power (j : Station) (s : State) : (heard j s).power = s.power := by rw [heard_eq]; split <;> simp
@[simp] theorem heard_out (j : Station) (s : State) : (heard j s).out = s.out := by rw [heard_eq]; split <;> simp
@[simp] theorem heard_peers (j : Station) (s : State) : (heard j s).peers = s.peers := by rw [heard_eq]; split <;> simp
@[simp] theorem heard_join (j : Station) (s : State) : (heard j s).join = s.join := by rw [heard_eq]; split <;> simp
@[simp] theorem heard_mode (j : Station) (s : State) : (heard j s).mode = s.mode := by rw [heard_eq]; split <;> simp
@[simp] theorem heard_supplyFan (j : Station) (s : State) : (heard j s).supplyFan = s.supplyFan := by rw [heard_eq]; split <;> simp
@[simp] theorem heard_extractFan (j : Station) (s : State) : (heard j s).extractFan = s.extractFan := by rw [heard_eq]; split <;> simp
@[simp] theorem heard_frost (j : Station) (s : State) : (heard j s).frost = s.frost := by rw [heard_eq]; split <;> simp
@[simp] theorem heard_queue (j : Station) (s : State) : (heard j s).queue = s.queue := by rw [heard_eq]; split <;> simp
@[simp] theorem heard_own (j : Station) (s : State) : (heard j s).own = s.own := by rw [heard_eq]; split <;> simp
@[simp] theorem heard_humid (j : Station) (s : State) : (heard j s).humid = s.humid := by rw [heard_eq]; split <;> simp
@[simp] theorem heard_filters (j : Station) (s : State) : (heard j s).filters = s.filters := by rw [heard_eq]; split <;> simp
@[simp] theorem heard_nv (j : Station) (s : State) : (heard j s).nv = s.nv := by rw [heard_eq]; split <;> simp
@[simp] theorem heard_torn (j : Station) (s : State) : (heard j s).torn = s.torn := by rw [heard_eq]; split <;> simp
@[simp] theorem heard_clock (j : Station) (s : State) : (heard j s).clock = s.clock := by rw [heard_eq]; split <;> simp
@[simp] theorem heard_sensors (j : Station) (s : State) : (heard j s).sensors = s.sensors := by rw [heard_eq]; split <;> simp
@[simp] theorem heard_lamp (j : Station) (s : State) : (heard j s).lamp = s.lamp := by rw [heard_eq]; split <;> simp
@[simp] theorem heard_panel (j : Station) (s : State) : (heard j s).panel = s.panel := by rw [heard_eq]; split <;> simp
@[simp] theorem heard_pending (j : Station) (s : State) : (heard j s).pending = s.pending := by rw [heard_eq]; split <;> simp

/-- The line after a valid frame. -/
theorem heard_line (j : Station) (s : State) :
    (heard j s).line =
      { s.line with lastSender := j, idle := false, slotTime := none, errors := s.line.errors - 1
                    condition := if s.line.condition = .doubt ∧ s.line.errors ≤ 1 then .clear else s.line.condition } := by
  rw [heard_eq]; split <;> simp

/-- A valid frame of a peer: heard, delivered, settled. -/
theorem takeFrame_peer {s : State} {j : Station} (f : State → State) (hr : canReceive s = true)
    (ho : ownNumber s ≠ some j) : takeFrame j f s = settle (f (heard j s)) := by
  have h : isOwn s j = false := by simpa [isOwn] using ho
  simp [takeFrame, hr, h]

/-- A valid frame under the own number: heard, then MUTED as duplicate. -/
theorem takeFrame_own {s : State} {j : Station} (f : State → State) (hr : canReceive s = true)
    (ho : ownNumber s = some j) :
    takeFrame j f s = afterLine (heard j s).out.give (enterMuted .duplicate (heard j s)) := by
  have h : isOwn s j = true := by simpa [isOwn] using ho
  simp [takeFrame, hr, h]

/-- An own frame that completes: the driver released, heard, delivered. -/
theorem completeFrame_own {s : State} {own : Station} {f : Sending} (ho : ownNumber s = some own)
    (hf : s.line.sending = some f) :
    completeFrame s = deliverOwn own f (heard own { s with line := { s.line with sending := none } }) := by
  simp [completeFrame, hf, ho]

/-! ### Line conditions (R17, R20, R22) -/

theorem enterDoubt_line (s : State) :
    (enterDoubt s).line = { s.line with condition := .doubt, run := if s.out.test then none else s.line.run } := by
  simp [enterDoubt, withdrawForDoubt, setCondition]; rfl

theorem enterStuck_line (s : State) :
    (enterStuck s).line = { s.line with condition := .stuck, run := if s.out.test then none else s.line.run } := by
  simp [enterStuck, withdrawAll, setCondition]; rfl

theorem enterStuck_out (s : State) : (enterStuck s).out = Outgoing.empty := by
  simp [enterStuck, withdrawAll, setCondition]

/-- The line once the receiver has lost its frame: busy, and not ready until the next idle. -/
@[simp] theorem receiverLost_line (s : State) :
    (receiverLost s).line = { s.line with receiverReady := false, idle := false, slotTime := none } := rfl

/-- A receiver that cannot form a frame takes none. -/
theorem takeFrame_deaf {s : State} {j : Station} (f : State → State) (hr : canReceive s = false) : takeFrame j f s = s := by
  simp [takeFrame, hr]

/-- A frame that no ready receiver has in assembly does not break. -/
theorem breakFrame_deaf {s : State} (chars : List RxChar) (hr : canReceive s = false) : breakFrame chars s = s := by
  simp [breakFrame, hr]

/-- The line as it sticks in CLEAR or DOUBT, with no restart waiting: STUCK, busy, and no frame until the next idle. -/
theorem lineSticks_line {s : State} (hon : s.line.receiverOn = true) (hc : s.line.condition = .clear ∨ s.line.condition = .doubt)
    (hw : s.panel.restartWait = none) :
    (lineSticks s).line =
      { s.line with receiverReady := false, idle := false, slotTime := none, condition := .stuck
                    run := if s.out.test then none else s.line.run } := by
  have hp : (enterStuck (receiverLost s)).panel = s.panel := by simp [enterStuck, withdrawAll, setCondition]; rfl
  have ho : (receiverLost s).out = s.out := rfl
  rcases hc with hc | hc <;> simp [lineSticks, hon, hc, afterLine, hp, hw, enterStuck_line, ho]

/-- What a flag raised before an evaluation is after it. -/
theorem evaluate_raise (g : EventFlag) (s : State) : raised g (evaluate (raise g s)) = true :=
  evaluate_keeps g _ (raise_raised g s)

/-! ### The outgoing set when an event ends -/

theorem takeTarget_attempts (f : Fan) (a b : Nat) : (f.takeTarget a b).attempts = f.attempts := by
  unfold Fan.takeTarget
  cases f.state <;> simp only <;> (repeat' split) <;> rfl
theorem noticeRound_supply_attempts (s : State) : (noticeRound s).supplyFan.attempts = s.supplyFan.attempts := by
  simp [noticeRound, handTargets, takeTarget_attempts]
theorem noticeRound_extract_attempts (s : State) : (noticeRound s).extractFan.attempts = s.extractFan.attempts := by
  simp [noticeRound, handTargets, takeTarget_attempts]
theorem settle_attempts (s : State) : (settle s).supplyFan.attempts = s.supplyFan.attempts ∧ (settle s).extractFan.attempts = s.extractFan.attempts := by
  simp [settle, noticeRound_supply_attempts, noticeRound_extract_attempts]


theorem settle_take_off {s : State} (hc : s.line.condition ≠ .clear) (ht : s.out.take = false) : (settle s).out.take = false := by
  have key : ∀ u : State, u.line.condition ≠ .clear → u.out.take = false → (noticeRound u).out.take = false := by
    intro u hc ht
    have g : ∀ v : State, v.out.take = false → (giveUp v).out.take = false := by
      intro v hv; unfold giveUp; split
      · rfl
      · unfold requestGive; (repeat' split) <;> simp_all
    have r : ∀ v : State, v.line.condition ≠ .clear → v.out.take = false → (requestTake v).out.take = false := by
      intro v hv h; unfold requestTake wantsTake; split
      · simp_all
      · exact h
    have e : (noticeEligibility u).out.take = false := by
      simp only [noticeEligibility]
      (repeat' split) <;> simp_all [reduceEligible, preheatLost, toPreheat]
      · split <;> [exact ht; exact g _ ht]
      · split <;> [exact ht; (split <;> [exact g _ ht; exact ht])]
    have f : (noticeFan (noticeEligibility u)).out.take = false := by
      unfold noticeFan; split <;> [exact g _ e; exact e]
    simp [noticeRound]
    exact r _ (by simpa using hc) f
  unfold settle
  have k1 := key s hc ht
  have k2 := key _ (by simpa using hc) k1
  have k3 := key _ (by simpa using hc) k2
  have k4 := key _ (by simpa using hc) k3
  simpa using k4
theorem settle_give_off {s : State} (hc : s.line.condition = .stuck ∨ s.line.condition = .muted) (ht : s.out.give = false) : (settle s).out.give = false := by
  have key : ∀ u : State, u.line.condition = .stuck ∨ u.line.condition = .muted → u.out.give = false → (noticeRound u).out.give = false := by
    intro u hc ht
    have rg : ∀ v : State, v.line.condition = .stuck ∨ v.line.condition = .muted → v.out.give = false → (requestGive v).out.give = false := by
      intro v hv h
      unfold requestGive permitted
      cases hj : v.join.membership <;> rcases hv with hv | hv <;> simp [hv, h, hj]
    have g : ∀ v : State, v.line.condition = .stuck ∨ v.line.condition = .muted → v.out.give = false → (giveUp v).out.give = false := by
      intro v hv h; unfold giveUp; split
      · exact h
      · split
        · exact rg _ hv h
        · split
          · exact rg _ hv h
          · exact h
    have r : ∀ v : State, v.out.give = false → (requestTake v).out.give = false := by
      intro v h; unfold requestTake; split
      · exact h
      · exact h
    have e : (noticeEligibility u).out.give = false := by
      simp only [noticeEligibility]
      (repeat' split) <;> simp_all [reduceEligible, preheatLost, toPreheat, preheatToReduce]
      · split <;> [exact ht; exact g _ hc ht]
      · split <;> [exact ht; (split <;> [exact g _ hc ht; exact ht])]
    have f : (noticeFan (noticeEligibility u)).out.give = false := by
      unfold noticeFan; split <;> [exact g _ (by simpa [preheatToReduce] using hc) (by simpa [preheatToReduce] using e); exact e]
    simp [noticeRound]
    exact r _ f
  unfold settle
  have k1 := key s hc ht
  have k2 := key _ (by simpa using hc) k1
  have k3 := key _ (by simpa using hc) k2
  have k4 := key _ (by simpa using hc) k3
  simpa using k4
theorem settle_out_empty {s : State} (hc : s.line.condition = .stuck ∨ s.line.condition = .muted) (ht : s.out = Outgoing.empty) : (settle s).out = Outgoing.empty := by
  have a := settle_give_off hc (by rw [ht]; rfl)
  have b := settle_take_off (by rcases hc with h | h <;> simp [h]) (show s.out.take = false by rw [ht]; rfl)
  have c := settle_out_status s; have d := settle_out_test s; have e := settle_out_terms s
  rw [ht] at c d e
  cases h : (settle s).out
  simp_all [Outgoing.empty]

/-! ### TAKE in the queue copy (R119, R121, R122) -/

@[simp] theorem queueTake_line (j : Station) (v : Byte) (s : State) : (queueTake j v s).line = s.line := by
  unfold queueTake; split <;> [rfl; (split <;> [skip; rfl])]
  simp only [lockout]; split <;> (split <;> simp)

@[simp] theorem queueTake_peers (j : Station) (v : Byte) (s : State) : (queueTake j v s).peers = s.peers := by
  unfold queueTake; split <;> [rfl; (split <;> [skip; rfl])]
  simp only [lockout]; split <;> (split <;> simp)

@[simp] theorem queueTake_clock (j : Station) (v : Byte) (s : State) : (queueTake j v s).clock = s.clock := by
  unfold queueTake; split <;> [rfl; (split <;> [skip; rfl])]
  simp only [lockout]; split <;> (split <;> simp)

@[simp] theorem queueTake_join (j : Station) (v : Byte) (s : State) : (queueTake j v s).join = s.join := by
  unfold queueTake; split <;> [rfl; (split <;> [skip; rfl])]
  simp only [lockout]; split <;> (split <;> simp)

@[simp] theorem queueTake_mode (j : Station) (v : Byte) (s : State) : (queueTake j v s).mode = s.mode := by
  unfold queueTake; split <;> [rfl; (split <;> [skip; rfl])]
  simp only [lockout]; split <;> (split <;> simp)

@[simp] theorem queueTake_panel (j : Station) (v : Byte) (s : State) : (queueTake j v s).panel = s.panel := by
  unfold queueTake; split <;> [rfl; (split <;> [skip; rfl])]
  simp only [lockout]; split <;> (split <;> simp)

@[simp] theorem queueTake_power (j : Station) (v : Byte) (s : State) : (queueTake j v s).power = s.power := by
  unfold queueTake; split <;> [rfl; (split <;> [skip; rfl])]
  simp only [lockout]; split <;> (split <;> simp)

@[simp] theorem queueTake_nv (j : Station) (v : Byte) (s : State) : (queueTake j v s).nv = s.nv := by
  unfold queueTake; split <;> [rfl; (split <;> [skip; rfl])]
  simp only [lockout]; split <;> (split <;> simp)

@[simp] theorem queueTake_sensors (j : Station) (v : Byte) (s : State) : (queueTake j v s).sensors = s.sensors := by
  unfold queueTake; split <;> [rfl; (split <;> [skip; rfl])]
  simp only [lockout]; split <;> (split <;> simp)

@[simp] theorem queueTake_pending (j : Station) (v : Byte) (s : State) : (queueTake j v s).pending = s.pending := by
  unfold queueTake; split <;> [rfl; (split <;> [skip; rfl])]
  simp only [lockout]; split <;> (split <;> simp)

@[simp] theorem queueTake_filters (j : Station) (v : Byte) (s : State) : (queueTake j v s).filters = s.filters := by
  unfold queueTake; split <;> [rfl; (split <;> [skip; rfl])]
  simp only [lockout]; split <;> (split <;> simp)

@[simp] theorem queueTake_torn (j : Station) (v : Byte) (s : State) : (queueTake j v s).torn = s.torn := by
  unfold queueTake; split <;> [rfl; (split <;> [skip; rfl])]
  simp only [lockout]; split <;> (split <;> simp)

@[simp] theorem queueTake_lamp (j : Station) (v : Byte) (s : State) : (queueTake j v s).lamp = s.lamp := by
  unfold queueTake; split <;> [rfl; (split <;> [skip; rfl])]
  simp only [lockout]; split <;> (split <;> simp)

@[simp] theorem queueTake_humid (j : Station) (v : Byte) (s : State) : (queueTake j v s).humid = s.humid := by
  unfold queueTake; split <;> [rfl; (split <;> [skip; rfl])]
  simp only [lockout]; split <;> (split <;> simp)

@[simp] theorem queueTake_supplyFan (j : Station) (v : Byte) (s : State) : (queueTake j v s).supplyFan = s.supplyFan := by
  unfold queueTake; split <;> [rfl; (split <;> [skip; rfl])]
  simp only [lockout]; split <;> (split <;> simp)

@[simp] theorem queueTake_extractFan (j : Station) (v : Byte) (s : State) : (queueTake j v s).extractFan = s.extractFan := by
  unfold queueTake; split <;> [rfl; (split <;> [skip; rfl])]
  simp only [lockout]; split <;> (split <;> simp)

@[simp] theorem queueTake_frost (j : Station) (v : Byte) (s : State) : (queueTake j v s).frost = s.frost := by
  unfold queueTake; split <;> [rfl; (split <;> [skip; rfl])]
  simp only [lockout]; split <;> (split <;> simp)

@[simp] theorem entryAppeared_power (s : State) : (entryAppeared s).power = s.power := by unfold entryAppeared; split <;> simp

@[simp] theorem entryAppeared_line (s : State) : (entryAppeared s).line = s.line := by unfold entryAppeared; split <;> simp

@[simp] theorem entryAppeared_peers (s : State) : (entryAppeared s).peers = s.peers := by unfold entryAppeared; split <;> simp

@[simp] theorem entryAppeared_join (s : State) : (entryAppeared s).join = s.join := by unfold entryAppeared; split <;> simp

@[simp] theorem entryAppeared_mode (s : State) : (entryAppeared s).mode = s.mode := by unfold entryAppeared; split <;> simp

@[simp] theorem entryAppeared_plan (s : State) : (entryAppeared s).plan = s.plan := by unfold entryAppeared; split <;> simp

@[simp] theorem entryAppeared_supplyFan (s : State) : (entryAppeared s).supplyFan = s.supplyFan := by unfold entryAppeared; split <;> simp

@[simp] theorem entryAppeared_extractFan (s : State) : (entryAppeared s).extractFan = s.extractFan := by unfold entryAppeared; split <;> simp

@[simp] theorem entryAppeared_stack (s : State) : (entryAppeared s).stack = s.stack := by unfold entryAppeared; split <;> simp

@[simp] theorem entryAppeared_frost (s : State) : (entryAppeared s).frost = s.frost := by unfold entryAppeared; split <;> simp

@[simp] theorem entryAppeared_queue (s : State) : (entryAppeared s).queue = s.queue := by unfold entryAppeared; split <;> simp

@[simp] theorem entryAppeared_humid (s : State) : (entryAppeared s).humid = s.humid := by unfold entryAppeared; split <;> simp

@[simp] theorem entryAppeared_filters (s : State) : (entryAppeared s).filters = s.filters := by unfold entryAppeared; split <;> simp

@[simp] theorem entryAppeared_nv (s : State) : (entryAppeared s).nv = s.nv := by unfold entryAppeared; split <;> simp

@[simp] theorem entryAppeared_torn (s : State) : (entryAppeared s).torn = s.torn := by unfold entryAppeared; split <;> simp

@[simp] theorem entryAppeared_clock (s : State) : (entryAppeared s).clock = s.clock := by unfold entryAppeared; split <;> simp

@[simp] theorem entryAppeared_sensors (s : State) : (entryAppeared s).sensors = s.sensors := by unfold entryAppeared; split <;> simp

@[simp] theorem entryAppeared_lamp (s : State) : (entryAppeared s).lamp = s.lamp := by unfold entryAppeared; split <;> simp

@[simp] theorem entryAppeared_panel (s : State) : (entryAppeared s).panel = s.panel := by unfold entryAppeared; split <;> simp

@[simp] theorem entryAppeared_events (s : State) : (entryAppeared s).events = s.events := by unfold entryAppeared; split <;> simp

@[simp] theorem entryAppeared_pending (s : State) : (entryAppeared s).pending = s.pending := by unfold entryAppeared; split <;> simp


/-- The entry just inserted is its station's entry. -/
theorem insertEntry_find (n : Byte) (e : Entry) (l : List Entry) (h : ∀ x ∈ l, x.station ≠ e.station) :
    (insertEntry n e l).find? (fun x => decide (x.station = e.station)) = some e := by
  induction l with
  | nil => simp [insertEntry]
  | cons x xs ih =>
    unfold insertEntry
    split
    · simp
    · have := h x (by simp)
      rw [List.find?_cons]
      simp [this, ih (fun y hy => h y (by simp [hy]))]

theorem withoutStation_ne (j : Station) (l : List Entry) : ∀ x ∈ withoutStation j l, x.station ≠ j := by
  intro x hx; simpa [withoutStation] using (List.mem_filter.mp hx).2

/-- After an insertion that first removes the station's entry (R115), the inserted one is its entry. -/
theorem placeEntry_find (n : Byte) (e : Entry) (l : List Entry) :
    (placeEntry n e l).find? (fun x => decide (x.station = e.station)) = some e :=
  insertEntry_find n e _ (withoutStation_ne _ _)

/-- A serial is one behind the N that has moved past it. -/
theorem serialDistance_succ (v : Byte) : serialDistance (v + 1#8) v = 1 := by
  unfold serialDistance
  have : v + 1#8 - v = 1#8 := by
    rw [BitVec.add_comm]; exact BitVec.add_sub_cancel 1#8 v
  rw [this]; rfl

/-- A current or ahead TAKE's entry stands in the copy (R121). -/
theorem accept_entryOf (q : Queue) (j : Station) (v : Byte) :
    entryOf (q.accept j v) j = some { station := j, serial := v, shadow := none, hold := 0 } :=
  placeEntry_find (v + 1) (freshEntry j v) _

/-! ### Slots in elapsed time (R9, R11) -/

theorem advanceSlots_none {s : State} (b : Nat) (h : s.line.slotTime = none) : advanceSlots b s = s := by
  unfold advanceSlots; rw [h, Option.map_none, ← h]

/-- What an advance of the count and the start of a slot keep, the bit times of an idle line keep. -/
theorem runSlots_keeps {P : State → Prop} (ha : ∀ b s, P s → P (advanceSlots b s)) (hs : ∀ s, P s → P (slotStarts s)) :
    ∀ (n b : Nat) (s : State), P s → P (runSlots n b s)
  | 0, b, s, h => ha b s h
  | n + 1, b, s, h => by
    unfold runSlots
    split
    · exact ha b s h
    · split
      · exact runSlots_keeps ha hs n _ _ (hs _ (ha _ s h))
      · exact ha b s h

theorem runLine_keeps {P : State → Prop} (ha : ∀ b s, P s → P (advanceSlots b s)) (hs : ∀ s, P s → P (slotStarts s))
    {s : State} (h : P s) : P (runLine s) := runSlots_keeps ha hs 6 lineBitTimes s h

/-! ### Characters (R3) -/

/-- A character is read as it is sent. -/
theorem receiveChar_charLevels (b : Byte) : receiveChar (charLevels b) = some { byte := b, stopGood := true } := by
  revert b; decide +kernel

/-- Characters sent are the characters received. -/
theorem receiveChars_charLevels (bytes : List Byte) :
    receiveChars (bytes.map charLevels) = bytes.map (fun b => { byte := b, stopGood := true }) := by
  induction bytes with
  | nil => rfl
  | cons b bs ih =>
    unfold receiveChars at *
    simp only [List.map_cons, List.filterMap_cons, receiveChar_charLevels, ih]

/-- The panel port takes every byte whose stop bit is high. -/
theorem panelBytes_good (bytes : List Byte) :
    panelBytes (bytes.map (fun b => { byte := b, stopGood := true })) = bytes := by
  induction bytes with
  | nil => rfl
  | cons b bs ih => simpa [panelBytes] using ih

end Sys2Proof.Machine
end

