-- ==== Sys2Proof/Laws/Rules.lean ====
section
/-! SUPPORT. The fan and the riser rules through the shared operations: a handed target keeps the fan rule, and a composition
sets the claim rule up again; and what a request for a save makes of the save state. -/

namespace Sys2Proof.Machine

/-! ### Saving (R163) -/

/-- The save table: from IDLE a write of the working record, from WRITING the save queued behind it, from QUEUED no change. -/
theorem requestSave_save (s : State) :
    (requestSave s).filters.save = match s.filters.save with
      | .idle => .writing (workingRecord s)
      | .writing c => .queued c
      | .queued c => .queued c := by
  unfold requestSave; split <;> simp_all

/-- Neither the request nor the forming of the states nor the reminder nor the end of an event moves the working record. -/
@[simp] theorem requestSave_workingRecord (s : State) : workingRecord (requestSave s) = workingRecord s := by
  unfold requestSave; split <;> rfl
@[simp] theorem formStates_workingRecord (s : State) : workingRecord (formStates s) = workingRecord s := by
  unfold formStates setFilters raiseIf; split <;> rfl
@[simp] theorem remind_workingRecord (s : State) : workingRecord (remind s) = workingRecord s := by
  unfold remind setFilters raiseIf; split <;> rfl
@[simp] theorem settle_workingRecord (s : State) : workingRecord (settle s) = workingRecord s := by
  simp [workingRecord, settle, followOutputs, followMarks]

/-! ### Fans -/

theorem takeTarget_ruled {f : Fan} (flow k : Nat) (h : f.ruled) : (f.takeTarget flow k).ruled := by
  unfold Fan.ruled at *
  unfold Fan.takeTarget
  cases hs : f.state <;> simp only [hs] at h ⊢ <;> (repeat' split) <;>
    simp_all [Fan.toStarting, Fan.toStopped, Fan.toFailed] <;> omega

theorem toStalled_ruled {f : Fan} (h : f.ruled) (hs : f.state = .starting ∨ f.state = .running) : f.toStalled.ruled := by
  unfold Fan.ruled at *
  rcases hs with hs | hs <;> simp only [hs] at h <;> simp [Fan.toStalled] <;> omega

theorem toRunning_ruled {f : Fan} (h : f.ruled) (hs : f.state = .starting) : f.toRunning.ruled := by
  unfold Fan.ruled at *
  simp only [hs] at h
  simp [Fan.toRunning, h]

theorem toStarting_ruled {f : Fan} (h : f.attempts < 5) : f.toStarting.ruled := by
  simp [Fan.ruled, Fan.toStarting, h]

theorem toFailed_ruled {f : Fan} (h : f.attempts = 5) : f.toFailed.ruled := by
  simp [Fan.ruled, Fan.toFailed, h]

theorem loopStep_ruled {f : Fan} (h : f.ruled) (hs : f.state = .running) : f.loopStep.ruled := by
  unfold Fan.ruled at *
  simp only [hs] at h
  simp only [Fan.loopStep, hs]
  omega

theorem edge_ruled {f : Fan} (time : Nat) (h : f.ruled) : (f.edge time).ruled := by
  have key : f.state = .starting ∨ f.state = .running → (Fan.edge.accept f time).ruled := by
    intro hs
    unfold Fan.edge.accept
    split
    · unfold Fan.ruled at *; rcases hs with hs | hs <;> simp_all
    · split
      · exact h
      · rename_i last _ hlt
        have : 30000000 / (time - last) ≤ 4000 := by
          have : 7500 ≤ time - last := by omega
          calc 30000000 / (time - last) ≤ 30000000 / 7500 := Nat.div_le_div_left this (by decide)
            _ = 4000 := by decide
        unfold Fan.ruled at *; rcases hs with hs | hs <;> simp_all
  unfold Fan.edge
  cases hs : f.state <;> simp only
  · exact h
  · exact key (Or.inl hs)
  · exact key (Or.inr hs)
  · exact h
  · exact h

theorem handTargets_ruled {s : State} (h : fansRuled s) : fansRuled (handTargets s) := by
  simp only [fansRuled, handTargets, raiseIf_supplyFan, raiseIf_extractFan]
  exact ⟨takeTarget_ruled _ _ h.1, takeTarget_ruled _ _ h.2⟩

theorem noticeRound_ruled {s : State} (h : fansRuled s) : fansRuled (noticeRound s) := by
  unfold noticeRound
  apply handTargets_ruled
  simpa [fansRuled] using h

/-- The end of an event keeps the fan rule (R69). -/
theorem settle_fansRuled {s : State} (h : fansRuled s) : fansRuled (settle s) := by
  have h4 := noticeRound_ruled (noticeRound_ruled (noticeRound_ruled (noticeRound_ruled h)))
  simpa [settle, fansRuled] using h4

/-! ### The cap and the claim -/

/-- The cap is never larger than the demand (R82). -/
theorem capFor_le (s : State) (d : Nat) : capFor s d ≤ d := by
  unfold capFor
  split
  · exact Nat.min_le_left _ _
  · split
    · exact Nat.min_le_left _ _
    · split
      · exact Nat.le_refl d
      · omega

/-- The balance step never raises the extract (R63, R83). -/
theorem balanceStep_extract_le (x e i : Nat) : (balanceStep x e i).2 ≤ e := by
  unfold balanceStep
  split
  · rename_i h
    have hp : 0 < 100 - i := by
      rcases Nat.eq_zero_or_pos (100 - i) with h0 | h0
      · simp [h0] at h
      · exact h0
    exact Nat.le_of_lt_succ (Nat.div_lt_of_lt_mul (by
      calc x * 100 < e * (100 - i) := h
        _ ≤ (100 - i) * (e + 1) := by rw [Nat.mul_comm e]; exact Nat.mul_le_mul_left _ (Nat.le_succ e)))
  · split <;> simp

/-- The final extract is never above the cap (R83). -/
theorem targetsOf_extract_le (row : ClassRow) (s : State) (d c : Nat) : (targetsOf row s d c).2 ≤ c := by
  unfold targetsOf stopStep
  have hb := balanceStep_extract_le (trimStep (frostStep d s.frost.reduction) s.filters.trim) (min d c)
    s.join.terms.imbalance
  split
  · simp
  · split
    · split
      · simp
      · exact Nat.min_le_right _ _
    · split
      · simp
      · omega

theorem composeOnce_none {s : State} (h : s.join.straps = none) :
    composeOnce s = { s with plan := { s.plan with effective := effectiveMode s, supply := 0, extract := 0 } } := by
  simp [composeOnce, h]

theorem answerDemand_cap_le (s : State) (d : Nat) (h : s.stack.cap ≤ s.stack.demand) :
    (answerDemand s d).cap ≤ (answerDemand s d).demand := by
  unfold answerDemand
  split
  · exact h
  · exact capFor_le s d

/-- What a composition needs to set the claim rule up again. -/
def claimReady (s : State) : Prop :=
  s.stack.cap ≤ s.stack.demand ∧ (s.join.straps = none → s.stack.claim = 0)

theorem composeOnce_claim {s : State} (h : claimReady s) : claimRuled (composeOnce s) := by
  obtain ⟨h1, h2⟩ := h
  unfold composeOnce
  split
  · rename_i hn
    simp [claimRuled, h2 hn, h1]
  · rename_i straps hn
    refine ⟨rfl, targetsOf_extract_le _ _ _ _, answerDemand_cap_le s _ h1, ?_⟩
    intro hh
    rw [hn] at hh
    cases hh

theorem formCap_ready {s : State} (h : claimReady s) : claimReady (formCap s) :=
  ⟨capFor_le s s.stack.demand, h.2⟩

theorem checkLimit_ready {s : State} (h : claimReady s) : claimReady (checkLimit s) := by
  unfold checkLimit
  split
  · exact h
  · exact h

theorem claimRuled_ready {s : State} (h : claimRuled s) : claimReady s := ⟨h.2.2.1, h.2.2.2⟩

theorem compose_claim {s : State} (h : claimReady s) : claimRuled (compose s) := by
  have h1 := composeOnce_claim h
  simp only [compose]
  split
  · exact h1
  · exact composeOnce_claim (formCap_ready (checkLimit_ready (claimRuled_ready h1)))

theorem checkLimit_claim {s : State} (h : claimRuled s) : claimRuled (checkLimit s) := by
  unfold checkLimit
  split
  · exact h
  · exact h

/-- An evaluation keeps the claim rule: it composes again whenever the cap moves (R84). -/
theorem evaluate_claim {s : State} (h : claimRuled s) : claimRuled (evaluate s) := by
  have h1 := checkLimit_claim h
  simp only [evaluate]
  split
  · rename_i he
    have hc : capFor (checkLimit s) (checkLimit s).stack.demand = (checkLimit s).stack.cap := by
      have : (checkLimit s).stack.cap = s.stack.cap := by unfold checkLimit; split <;> rfl
      rw [this]; exact he
    refine ⟨h1.1, ?_, capFor_le _ _, h1.2.2.2⟩
    show (checkLimit s).stack.claim ≤ capFor (checkLimit s) (checkLimit s).stack.demand
    rw [hc]; exact h1.2.1
  · exact compose_claim (formCap_ready (claimRuled_ready h1))

theorem noticeRound_claim {s : State} (h : claimReady s) : claimRuled (noticeRound s) := by
  have : claimReady (noticeStop (requestTake (noticeFan (noticeEligibility s)))) := by simpa [claimReady] using h
  have h1 := compose_claim this
  unfold noticeRound
  simpa [claimRuled] using h1

/-- The end of an event composes: the claim rule holds after it (R64, R83). -/
theorem settle_claim {s : State} (h : claimReady s) : claimRuled (settle s) := by
  have h1 := noticeRound_claim h
  have h2 := noticeRound_claim (claimRuled_ready h1)
  have h3 := noticeRound_claim (claimRuled_ready h2)
  have h4 := noticeRound_claim (claimRuled_ready h3)
  unfold settle
  simpa [claimRuled] using h4

/-- The cap for a demand depends on the membership, the terms, the skew, the line condition, the records and the backoff. -/
theorem capFor_congr {s t : State} (d : Nat) (hj : t.join = s.join) (hl : t.line = s.line) (hp : t.peers = s.peers)
    (hb : t.stack.backoff = s.stack.backoff) : capFor t d = capFor s d := by
  simp [capFor, baseShare, loneShare, headroom, peerClaims, heldReports, presenceCount, hj, hl, hp, hb]

theorem capFormed_congr {s t : State} (hj : t.join = s.join) (hl : t.line = s.line) (hp : t.peers = s.peers)
    (hs : t.stack = s.stack) (h : capFormed s) : capFormed t := by
  unfold capFormed at *
  rw [capFor_congr _ hj hl hp (by rw [hs]), hs, h]

theorem answerDemand_formed {s : State} (d : Nat) (h : capFormed s) :
    (answerDemand s d).cap = capFor s (answerDemand s d).demand ∧ (answerDemand s d).backoff = s.stack.backoff := by
  unfold answerDemand
  split
  · exact ⟨h, rfl⟩
  · exact ⟨rfl, rfl⟩

theorem composeOnce_capFormed {s : State} (h : capFormed s) : capFormed (composeOnce s) := by
  unfold composeOnce
  split
  · exact capFormed_congr rfl rfl rfl rfl h
  · rename_i x _
    have ha := answerDemand_formed (demandOf (classRow x.fanClass) s) h
    refine ha.1.trans (Eq.symm ?_)
    apply capFor_congr
    · rfl
    · rfl
    · rfl
    · exact ha.2

theorem formCap_capFormed (s : State) : capFormed (formCap s) :=
  (capFor_congr (s := s) _ rfl rfl rfl rfl).symm

theorem compose_capFormed {s : State} (h : capFormed s) : capFormed (compose s) := by
  simp only [compose]
  split
  · exact composeOnce_capFormed h
  · exact composeOnce_capFormed (formCap_capFormed _)

/-- An evaluation leaves the cap formed (R84). -/
theorem evaluate_capFormed (s : State) : capFormed (evaluate s) := by
  simp only [evaluate]
  split
  · exact formCap_capFormed _
  · exact compose_capFormed (formCap_capFormed _)

/-- Every change of line condition leaves the cap formed (R87, R89). -/
theorem enterDoubt_capFormed (s : State) : capFormed (enterDoubt s) := evaluate_capFormed _
theorem leaveDoubt_capFormed (s : State) : capFormed (leaveDoubt s) := evaluate_capFormed _
theorem enterStuck_capFormed (s : State) : capFormed (enterStuck s) := evaluate_capFormed _
theorem enterMuted_capFormed {s : State} (c : MutedCause) (h : s.line.condition ≠ .muted) : capFormed (enterMuted c s) := by
  simp only [enterMuted, h, if_false]; exact evaluate_capFormed _

theorem noticeRound_capFormed {s : State} (h : capFormed s) : capFormed (noticeRound s) := by
  have h1 : capFormed (noticeStop (requestTake (noticeFan (noticeEligibility s)))) :=
    capFormed_congr (by simp) (by simp) (by simp) (by simp) h
  exact capFormed_congr (by simp [noticeRound]) (by simp [noticeRound]) (by simp [noticeRound]) (by simp [noticeRound])
    (compose_capFormed h1)

/-- The end of an event keeps the cap formed (R83). -/
theorem settle_capFormed {s : State} (h : capFormed s) : capFormed (settle s) :=
  capFormed_congr (by simp [settle]) (by simp [settle]) (by simp [settle]) (by simp [settle])
    (noticeRound_capFormed (noticeRound_capFormed (noticeRound_capFormed (noticeRound_capFormed h))))

/-! ### No cut by a change of own demand (R82, R85, R87) -/

/-- A claim within the cap of R82 is not over the limit, with at most sixteen stations on the riser. -/
theorem capFor_within {s : State} {c d : Nat} (hp : presenceCount s ≤ 16) (hc : c ≤ capFor s d) :
    ¬ (s.join.terms.stackLimit < peerClaims s + c ∧ baseShare s < c) := by
  rintro ⟨hl, hb⟩
  have h1 : loneShare s ≤ baseShare s :=
    Nat.div_le_div_left hp (by unfold presenceCount; omega)
  unfold capFor headroom at hc
  repeat' split at hc
  all_goals omega

/-- What a change of own demand leaves of the backoff and of STACK_CUT. -/
def uncut (s t : State) : Prop := t.stack.backoff = s.stack.backoff ∧ raised .stackCut t = raised .stackCut s

theorem composeOnce_uncut (s : State) : uncut s (composeOnce s) := by
  refine ⟨?_, by simp [raised]⟩
  unfold composeOnce
  split
  · rfl
  · simp only [answerDemand]; split <;> rfl

/-- A composition that changed the demand leaves a claim within the limit. -/
theorem composeOnce_within {s : State} (hp : presenceCount s ≤ 16) (hd : (composeOnce s).stack.demand ≠ s.stack.demand) :
    checkLimit (composeOnce s) = composeOnce s := by
  have key : overLimit (composeOnce s) = false := by
    cases hx : s.join.straps with
    | none => rw [composeOnce_none hx] at hd; exact absurd rfl hd
    | some x =>
      have hd' : demandOf (classRow x.fanClass) s ≠ s.stack.demand := by
        intro h; apply hd; simp [composeOnce, hx, answerDemand, h]
      have hc : (composeOnce s).stack.claim ≤ capFor s (demandOf (classRow x.fanClass) s) := by
        simp only [composeOnce, hx, answerDemand, hd', if_false]
        exact targetsOf_extract_le _ _ _ _
      have hw := capFor_within hp hc
      have hj : (composeOnce s).join = s.join := by simp
      have hr : (composeOnce s).peers = s.peers := by simp
      simp only [overLimit, peerClaims, heldReports, baseShare, presenceCount, hj, hr] at hw ⊢
      simpa using hw
  simp [checkLimit, key]

theorem compose_uncut {s : State} (hp : presenceCount s ≤ 16) : uncut s (compose s) := by
  simp only [compose]
  split
  · exact composeOnce_uncut s
  · rename_i hd
    rw [composeOnce_within hp hd]
    have h1 := composeOnce_uncut s
    have h2 := composeOnce_uncut (formCap (composeOnce s))
    exact ⟨h2.1.trans h1.1, h2.2.trans h1.2⟩

theorem noticeRound_uncut {s : State} (hp : presenceCount s ≤ 16) : uncut s (noticeRound s) := by
  have h := compose_uncut (s := noticeStop (requestTake (noticeFan (noticeEligibility s)))) (by
    simpa [presenceCount] using hp)
  refine ⟨by simpa [noticeRound] using h.1, ?_⟩
  have h2 := h.2
  simp only [noticeRound, handTargets, raiseIf, raise, raised] at h2 ⊢
  split <;> simp_all [EventFlag.place]

theorem noticeRound_presence (s : State) : presenceCount (noticeRound s) = presenceCount s := by
  simp [presenceCount, noticeRound]

/-- The end of an event begins no backoff and raises no STACK_CUT, with at most sixteen stations on the riser. -/
theorem settle_uncut {s : State} (hp : presenceCount s ≤ 16) : uncut s (settle s) := by
  have h1 := noticeRound_uncut hp
  have h2 := noticeRound_uncut (s := noticeRound s) (by simpa [noticeRound_presence] using hp)
  have h3 := noticeRound_uncut (s := noticeRound (noticeRound s)) (by simpa [noticeRound_presence] using hp)
  have h4 := noticeRound_uncut (s := noticeRound (noticeRound (noticeRound s))) (by simpa [noticeRound_presence] using hp)
  refine ⟨?_, ?_⟩
  · simpa [settle] using h4.1.trans (h3.1.trans (h2.1.trans h1.1))
  · have h5 := h4.2.trans (h3.2.trans (h2.2.trans h1.2))
    simpa [settle, raised] using h5

/-! ### The running entry into a minute (R166, R173) -/

/-- A step or an accepted TIME_SET leaves no running entry due (R173). -/
theorem minuteDue_setClock (time sub : Nat) (s : State) (h : sub < 63) : minuteDue (setClock time sub s) = false := by
  have hc : (setClock time sub s).clock.sub = sub := by
    unfold setClock evaluateMinute
    dsimp only
    repeat' split
    all_goals rfl
  unfold minuteDue
  rw [hc]
  simp; omega

theorem takeMinuteEntered_due {s : State} (h : minuteDue s = true) : takeMinuteEntered s = settle (enterMinute s) := by
  simp [takeMinuteEntered, h]

theorem takeMinuteEntered_idle {s : State} (h : minuteDue s = false) : takeMinuteEntered s = s := by
  simp [takeMinuteEntered, h]

/-! ### Frost STOP -/

theorem effectiveMode_stop {s : State} (h : s.frost.stage = .stop) :
    effectiveMode s = .off ∨ effectiveMode s = .frostStop := by
  unfold effectiveMode
  split
  · exact Or.inl rfl
  · exact Or.inr (by simp [h])

theorem composeOnce_stop {s : State} (h : s.frost.stage = .stop) (hc : claimReady s) :
    (composeOnce s).plan.supply = 0 ∧ (composeOnce s).plan.extract = 0 ∧ (composeOnce s).stack.claim = 0 := by
  unfold composeOnce
  split
  · rename_i hn
    exact ⟨rfl, rfl, hc.2 hn⟩
  · rename_i straps hn
    have : targetsOf (classRow straps.fanClass) s (demandOf (classRow straps.fanClass) s)
        (answerDemand s (demandOf (classRow straps.fanClass) s)).cap = (0, 0) := by
      unfold targetsOf stopStep
      rcases effectiveMode_stop h with e | e <;> simp [e]
    simp [this]

theorem compose_stop {s : State} (h : s.frost.stage = .stop) (hc : claimReady s) :
    (compose s).plan.supply = 0 ∧ (compose s).plan.extract = 0 ∧ (compose s).stack.claim = 0 := by
  simp only [compose]
  split
  · exact composeOnce_stop h hc
  · exact composeOnce_stop (by simpa using h)
      (formCap_ready (checkLimit_ready (claimRuled_ready (composeOnce_claim hc))))

theorem noticeRound_stopRuled {s : State} (hc : claimReady s) : stopRuled (noticeRound s) := by
  intro hs
  have h0 := (noticeRound_stop s).mp hs
  have hh := noticeRound_humid_stop h0
  have hst : (noticeStop (requestTake (noticeFan (noticeEligibility s)))).frost.stage = .stop := by
    have h1 := frostSteady_trans (noticeEligibility_steady s) (noticeFan_steady _)
    simpa using h1.2.2.2.1.mpr h0
  have hr : claimReady (noticeStop (requestTake (noticeFan (noticeEligibility s)))) := by simpa [claimReady] using hc
  obtain ⟨a, b, c⟩ := compose_stop hst hr
  refine ⟨?_, ?_, ?_, by rw [hh]; rfl⟩
  · simpa [noticeRound] using a
  · simpa [noticeRound] using b
  · simpa [noticeRound] using c

/-- The end of an event leaves the rule of frost STOP holding (R106). -/
theorem settle_stopRuled {s : State} (hc : claimReady s) : stopRuled (settle s) := by
  have h1 := noticeRound_claim hc
  have h2 := noticeRound_claim (claimRuled_ready h1)
  have h3 := noticeRound_claim (claimRuled_ready h2)
  have h4 := noticeRound_stopRuled (claimRuled_ready h3)
  unfold settle stopRuled at *
  simpa [followOutputs, followPreheater] using h4

end Sys2Proof.Machine
end

