-- ==== Sys2Proof/Laws/Stable.lean ====
section
/-! SUPPORT. The end of an event leaves nothing to tell: after settle a composition changes nothing, each fan holds the target it
is handed, and no request for a place is left to make (log 6). -/

namespace Sys2Proof.Machine

/-! ### A composition made again -/

/-- A composition of the state would leave it as it is. -/
def composed (s : State) : Prop := composeOnce s = s

/-- A composition reads of each fan whether it has failed, and of the frost guard the stage and the reduction. -/
theorem composed_of_same {s t : State} (hc : composed s) (hj : t.join = s.join) (hl : t.line = s.line) (hp : t.peers = s.peers)
    (hm : t.mode = s.mode) (hst : t.stack = s.stack) (hpl : t.plan = s.plan) (hh : t.humid.state = s.humid.state)
    (hf1 : t.filters.supply = s.filters.supply) (hf2 : t.filters.extract = s.filters.extract)
    (hf3 : t.filters.trim = s.filters.trim) (hs : t.frost.stage = s.frost.stage)
    (hr : t.frost.reduction = s.frost.reduction) (h1 : t.supplyFan.state = .failed ↔ s.supplyFan.state = .failed)
    (h2 : t.extractFan.state = .failed ↔ s.extractFan.state = .failed) : composed t := by
  have e1 : (composeOnce t).plan = (composeOnce s).plan := by
    simp only [composeOnce, effectiveMode, anyFanFailed, humidActive, demandOf, boosting, anyOverdue, answerDemand, capFor,
      loneShare, baseShare, headroom, peerClaims, presenceCount, heldReports, targetsOf, stopStep, hj, hl, hp, hm, hst, hpl,
      hh, hf1, hf2, hf3, hs, hr, h1, h2]
    split <;> rfl
  have e2 : (composeOnce t).stack = (composeOnce s).stack := by
    simp only [composeOnce, effectiveMode, anyFanFailed, humidActive, demandOf, boosting, anyOverdue, answerDemand, capFor,
      loneShare, baseShare, headroom, peerClaims, presenceCount, heldReports, targetsOf, stopStep, hj, hl, hp, hm, hst, hpl,
      hh, hf1, hf2, hf3, hs, hr, h1, h2]
    split <;> simp
  unfold composed at *
  rw [hc] at e1 e2
  have e3 : composeOnce t = { t with plan := (composeOnce t).plan, stack := (composeOnce t).stack } := by
    unfold composeOnce; split <;> rfl
  rw [e3, e1, e2, ← hpl, ← hst]

/-- A composition with a latched fan class, given its demand. -/
theorem composeOnce_some {s : State} {x : Straps} (h : s.join.straps = some x) (d : Nat)
    (hd : demandOf (classRow x.fanClass) s = d) :
    composeOnce s =
      { s with
        stack := { answerDemand s d with claim := (targetsOf (classRow x.fanClass) s d (answerDemand s d).cap).2 }
        plan := { effective := effectiveMode s
                  supply := (targetsOf (classRow x.fanClass) s d (answerDemand s d).cap).1
                  extract := (targetsOf (classRow x.fanClass) s d (answerDemand s d).cap).2
                  curbed := boosting s &&
                    (targetsOf (classRow x.fanClass) s d (answerDemand s d).cap).2 < (classRow x.fanClass).boost } } := by
  subst hd
  simp [composeOnce, h]

theorem answerDemand_demand (s : State) (d : Nat) : (answerDemand s d).demand = d := by
  unfold answerDemand
  split
  · rename_i h; exact h.symm
  · rfl

/-- A composition made at once again answers the same: the demand is held, and so is its cap (R83). -/
theorem composeOnce_composed (s : State) : composed (composeOnce s) := by
  unfold composed
  cases h : s.join.straps with
  | none => simp [composeOnce, h, effectiveMode, anyFanFailed, humidActive]
  | some x =>
    have e := composeOnce_some h _ rfl
    have hd : demandOf (classRow x.fanClass) (composeOnce s) = demandOf (classRow x.fanClass) s := by rw [e]; rfl
    have ha := answerDemand_demand s (demandOf (classRow x.fanClass) s)
    have hs : answerDemand (composeOnce s) (demandOf (classRow x.fanClass) s) = (composeOnce s).stack := by
      have hk : (composeOnce s).stack.demand = demandOf (classRow x.fanClass) s := by rw [e]; exact ha
      unfold answerDemand; rw [if_pos hk.symm]
    rw [composeOnce_some (by simpa using h) _ hd, hs, e]
    rfl

theorem compose_composed (s : State) : composed (compose s) := by
  simp only [compose]
  split <;> exact composeOnce_composed _

theorem compose_of_composed {s : State} (h : composed s) : compose s = s := by
  unfold composed at h
  simp [compose, h]

/-! ### A target taken again -/

theorem takeTarget_twice (f : Fan) (a k : Nat) : (f.takeTarget a k).takeTarget a k = f.takeTarget a k := by
  unfold Fan.takeTarget
  cases hs : f.state <;> simp only <;> (repeat' split) <;>
    simp_all [Fan.toStarting, Fan.toStopped, Fan.toFailed]

/-- Both fans hold the targets of the plan. -/
def targetsHeld (s : State) : Prop :=
  s.supplyFan.takeTarget s.plan.supply (classFactor s) = s.supplyFan ∧
  s.extractFan.takeTarget s.plan.extract (classFactor s) = s.extractFan

theorem handTargets_held (s : State) : targetsHeld (handTargets s) := by
  have hk : classFactor (handTargets s) = classFactor s := by simp [classFactor]
  refine ⟨?_, ?_⟩ <;> rw [hk] <;> simp [handTargets, takeTarget_twice]

theorem handTargets_of_held {s : State} (h : targetsHeld s) : handTargets s = s := by
  simp [handTargets, h.1, h.2, newlyFailed, raiseIf]

theorem takeTarget_failed (f : Fan) (a k : Nat) (h : f.state = .failed) : (f.takeTarget a k).state = .failed := by
  simp [Fan.takeTarget, h]

/-! ### The request for a place -/

theorem wantsTake_requestTake (s : State) : wantsTake (requestTake s) = false := by
  unfold requestTake
  split
  · simp [wantsTake]
  · rename_i h
    by_cases hw : wantsTake s = true
    · have hp : permitted s .take = true := by
        simp only [wantsTake, Bool.and_eq_true, decide_eq_true_eq] at hw
        simp [permitted, hw.1.1.2, hw.1.2]
      simp [hw, hp] at h
    · simpa using hw

theorem wantsTake_congr {s t : State} (hf : t.frost = s.frost) (hq : t.queue = s.queue) (ho : t.own = s.own)
    (hj : t.join = s.join) (hl : t.line = s.line) : wantsTake t = wantsTake s := by
  simp [wantsTake, ownEntry, isOwn, ownNumber, hf, hq, ho, hj, hl]

/-! ### Rounds of notices -/

/-- What every round of notices leaves: the eligibility told, the humidity monitor told of STOP, the targets held. -/
def toldRound (s : State) : Prop := told s ∧ (noticeStop s).humid = s.humid ∧ targetsHeld s

theorem noticeRound_toldRound (s : State) : toldRound (noticeRound s) := by
  refine ⟨by simp [told], ?_, handTargets_held _⟩
  by_cases h : s.frost.stage = .stop
  · have h1 := (noticeRound_stop s).mpr h
    simp [noticeStop, h1, noticeRound_humid_stop h, Humid.toIdle]
  · have h1 : (noticeRound s).frost.stage ≠ .stop := fun e => h ((noticeRound_stop s).mp e)
    simp [noticeStop, h1, noticeRound_humid h]

/-- Nothing is left to tell but a request for a place. -/
def quiet (s : State) : Prop :=
  toldRound s ∧ composed s ∧ (s.frost.stage = .preheat → supplyMoves s = true)

theorem noticeRound_quiet {s : State} (h : quiet s) : noticeRound s = requestTake s := by
  obtain ⟨⟨h1, h2, h3⟩, h4, h5⟩ := h
  have e1 : noticeEligibility s = s := by simp [noticeEligibility, show eligibleNow s = s.own.eligible from h1.symm]
  have e2 : noticeFan s = s := by
    unfold noticeFan
    split
    · rename_i hp
      simp only [Bool.and_eq_true, decide_eq_true_eq, Bool.not_eq_true'] at hp
      rw [h5 hp.1] at hp; cases hp.2
    · rfl
  have e3 : noticeStop (requestTake s) = requestTake s := by
    have : noticeStop (requestTake s) = { requestTake s with humid := (noticeStop s).humid } := by
      unfold noticeStop; simp only [requestTake_frost]; split <;> simp
    rw [this, h2, ← requestTake_humid s]
  have e4 : composed (requestTake s) := composed_of_same h4 (by simp) (by simp) (by simp) (by simp) (by simp) (by simp)
    (by simp) (by simp) (by simp) (by simp) (by simp) (by simp) (by simp) (by simp)
  have e5 : targetsHeld (requestTake s) := by simpa [targetsHeld, classFactor] using h3
  simp [noticeRound, e1, e2, e3, compose_of_composed e4, handTargets_of_held e5]

theorem quiet_requestTake {s : State} (h : quiet s) : quiet (requestTake s) := by
  obtain ⟨⟨h1, h2, h3⟩, h4, h5⟩ := h
  refine ⟨⟨?_, ?_, ?_⟩, ?_, ?_⟩
  · simpa [told, eligibleNow, ownNumber, granted, kEff] using h1
  · have : (noticeStop (requestTake s)).humid = (noticeStop s).humid := by
      unfold noticeStop; simp only [requestTake_frost]; split <;> simp
    rw [this, h2]; simp
  · simpa [targetsHeld, classFactor] using h3
  · exact composed_of_same h4 (by simp) (by simp) (by simp) (by simp) (by simp) (by simp)
      (by simp) (by simp) (by simp) (by simp) (by simp) (by simp) (by simp) (by simp)
  · simpa [supplyMoves] using h5

/-- The fans that have not failed. -/
def working (s : State) : Nat :=
  (if s.supplyFan.state = .failed then 0 else 1) + (if s.extractFan.state = .failed then 0 else 1)

def preheating (s : State) : Nat := if s.frost.stage = .preheat then 1 else 0

theorem noticeRound_working (s : State) :
    working (noticeRound s) ≤ working s ∧ (working (noticeRound s) = working s → composed (noticeRound s)) := by
  have hs : (noticeRound s).supplyFan = s.supplyFan.takeTarget (noticeRound s).plan.supply (classFactor (noticeRound s)) := by
    simp [noticeRound, handTargets, classFactor]
  have he : (noticeRound s).extractFan =
      s.extractFan.takeTarget (noticeRound s).plan.extract (classFactor (noticeRound s)) := by
    simp [noticeRound, handTargets, classFactor]
  have h1 : s.supplyFan.state = .failed → (noticeRound s).supplyFan.state = .failed := fun h => by
    rw [hs]; exact takeTarget_failed _ _ _ h
  have h2 : s.extractFan.state = .failed → (noticeRound s).extractFan.state = .failed := fun h => by
    rw [he]; exact takeTarget_failed _ _ _ h
  refine ⟨?_, fun hw => ?_⟩
  · unfold working
    refine Nat.add_le_add ?_ ?_
    · split
      · exact Nat.zero_le _
      · rename_i hn; rw [if_neg (fun h => hn (h1 h))]
    · split
      · exact Nat.zero_le _
      · rename_i hn; rw [if_neg (fun h => hn (h2 h))]
  · have hc := compose_composed (noticeStop (requestTake (noticeFan (noticeEligibility s))))
    refine composed_of_same hc ?_ ?_ ?_ ?_ ?_ ?_ ?_ ?_ ?_ ?_ ?_ ?_ ?_ ?_ <;> try (simp [noticeRound]; done)
    · simp only [compose_supplyFan, noticeStop_supplyFan, requestTake_supplyFan, noticeFan_supplyFan, noticeEligibility_supplyFan]
      refine ⟨fun hx => ?_, h1⟩
      by_contra hn
      unfold working at hw
      by_cases b : s.extractFan.state = .failed
      · simp [hx, hn, b, h2 b] at hw
      · simp [hx, hn, b] at hw; split at hw <;> simp at hw
    · simp only [compose_extractFan, noticeStop_extractFan, requestTake_extractFan, noticeFan_extractFan,
        noticeEligibility_extractFan]
      refine ⟨fun hx => ?_, h2⟩
      by_contra hn
      unfold working at hw
      by_cases b : s.supplyFan.state = .failed
      · simp [hx, hn, b, h1 b] at hw
      · simp [hx, hn, b] at hw; split at hw <;> simp at hw

theorem noticeRound_preheating {s : State} (h : told s) :
    preheating (noticeRound s) ≤ preheating s ∧
    (s.frost.stage = .preheat → supplyMoves s = false → preheating (noticeRound s) < preheating s) := by
  have e1 : noticeEligibility s = s := by simp [noticeEligibility, show eligibleNow s = s.own.eligible from h.symm]
  have hf : (noticeRound s).frost = (noticeFan s).frost := by simp [noticeRound, e1]
  refine ⟨?_, fun hp hm => ?_⟩
  · unfold preheating
    rw [hf]; unfold noticeFan
    split
    · simp [preheatToReduce]
    · exact Nat.le_refl _
  · unfold preheating
    rw [hf]; unfold noticeFan
    simp [hp, hm, preheatToReduce]

/-- Four rounds are enough: at most two of them lose a fan and at most one more loses PREHEAT, and a round after which none of
these happens is quiet. -/
theorem rounds_composed (s : State) : composed (noticeRound (noticeRound (noticeRound (noticeRound s)))) := by
  have w1 := noticeRound_working s
  have t1 := noticeRound_toldRound s
  generalize noticeRound s = r1 at *
  have w2 := noticeRound_working r1
  have p2 := noticeRound_preheating t1.1
  have t2 := noticeRound_toldRound r1
  have q1 : quiet r1 → noticeRound r1 = requestTake r1 := noticeRound_quiet
  have k1 : quiet r1 → quiet (noticeRound r1) := fun h => by rw [noticeRound_quiet h]; exact quiet_requestTake h
  generalize noticeRound r1 = r2 at *
  have w3 := noticeRound_working r2
  have p3 := noticeRound_preheating t2.1
  have t3 := noticeRound_toldRound r2
  have k2 : quiet r2 → quiet (noticeRound r2) := fun h => by rw [noticeRound_quiet h]; exact quiet_requestTake h
  generalize noticeRound r2 = r3 at *
  have w4 := noticeRound_working r3
  have p4 := noticeRound_preheating t3.1
  have k3 : quiet r3 → composed (noticeRound r3) := fun h => by rw [noticeRound_quiet h]; exact (quiet_requestTake h).2.1
  have step : ∀ r r' : State, toldRound r' → (working r' = working r → composed r') → ¬ quiet r' →
      working r' ≠ working r ∨ (r'.frost.stage = .preheat ∧ supplyMoves r' = false) := by
    intro r r' ht hc hq
    by_contra hn
    push Not at hn
    exact hq ⟨ht, hc hn.1, fun hp => by simpa using hn.2 hp⟩
  by_contra hbad
  have n3 : ¬ quiet r3 := fun h => hbad (k3 h)
  have n2 : ¬ quiet r2 := fun h => n3 (k2 h)
  have n1 : ¬ quiet r1 := fun h => n2 (k1 h)
  have w4' : working (noticeRound r3) ≠ working r3 := fun e => hbad (w4.2 e)
  have b : working s ≤ 2 := by unfold working; split <;> split <;> simp
  have c : preheating r1 ≤ 1 := by unfold preheating; split <;> simp
  have s1 := step s r1 t1 w1.2 n1
  have s2 := step r1 r2 t2 w2.2 n2
  have s3 := step r2 r3 t3 w3.2 n3
  have l1 := w1.1
  have l2 := w2.1
  have l3 := w3.1
  have l4 := w4.1
  have m2 := p2.1
  have m3 := p3.1
  have m4 := p4.1
  have d1 : r1.frost.stage = .preheat ∧ supplyMoves r1 = false → preheating r2 < preheating r1 := fun h => p2.2 h.1 h.2
  have d2 : r2.frost.stage = .preheat ∧ supplyMoves r2 = false → preheating r3 < preheating r2 := fun h => p3.2 h.1 h.2
  have d3 : r3.frost.stage = .preheat ∧ supplyMoves r3 = false → preheating (noticeRound r3) < preheating r3 :=
    fun h => p4.2 h.1 h.2
  rcases s1 with s1 | s1 <;> rcases s2 with s2 | s2 <;> rcases s3 with s3 | s3 <;>
    first
      | (have := d1 s1; have := d2 s2; omega)
      | (have := d1 s1; have := d3 s3; omega)
      | (have := d2 s2; have := d3 s3; omega)
      | (have := d1 s1; omega)
      | (have := d2 s2; omega)
      | (have := d3 s3; omega)
      | omega

/-! ### After settle -/

/-- After an event the plan and the stack share unit's figures are those of the composition (R63, R64). -/
theorem settle_composed (s : State) : composed (settle s) := by
  unfold settle
  refine composed_of_same (rounds_composed s) ?_ ?_ ?_ ?_ ?_ ?_ ?_ ?_ ?_ ?_ ?_ ?_ ?_ ?_ <;>
    simp [followOutputs, followPreheater, followMarks]

/-- After an event each fan has taken the target the plan gives it (R71 to R76). -/
theorem settle_targetsHeld (s : State) : targetsHeld (settle s) := by
  have h := (noticeRound_toldRound (noticeRound (noticeRound (noticeRound s)))).2.2
  simpa [targetsHeld, classFactor, settle] using h

/-- After an event the frost guard has made the request of R107 if its conditions hold. -/
theorem settle_wantsTake (s : State) : wantsTake (settle s) = false := by
  have h : ∀ u : State, wantsTake (noticeRound u) = false := fun u => by
    have : wantsTake (noticeRound u) = wantsTake (requestTake (noticeFan (noticeEligibility u))) :=
      wantsTake_congr (by simp [noticeRound]) (by simp [noticeRound]) (by simp [noticeRound]) (by simp [noticeRound])
        (by simp [noticeRound])
    rw [this]; exact wantsTake_requestTake _
  have e : wantsTake (settle s) = wantsTake (noticeRound (noticeRound (noticeRound (noticeRound s)))) := by
    simp [settle, wantsTake, ownEntry, isOwn, ownNumber, followOutputs, followPreheater]
  rw [e]; exact h _

end Sys2Proof.Machine
end

