-- ==== Sys2Proof/Tests/Slice0.lean ====
section
/-! SUPPORT. Small checks: what the well-formedness check refuses, worked examples of the spec, and for every statement with
hypotheses a state and operands that meet them. -/

namespace Sys2Proof.Tests

open Sys2Proof Sys2Proof.Machine

/-! ### Small states -/

/-- Straps 5, class 0. -/
def straps5 : Straps := { number := 5, pullUp := true, override := false, fanClass := 0 }

/-- A station 5 whose timers run, in the given membership, on an idle CLEAR line with a ready receiver. -/
def station (m : Membership) : State :=
  { State.reset with
    join := { Join.start with membership := m, straps := some straps5, listenTicks := 2 }
    line := { Line.start with receiverOn := true, receiverReady := true, idle := true, slotTime := some 0 }
    peers := { Peers.start with roundTimer := some 9 }
    sensors := { Sensors.start with scanTimer := some 9 }
    filters := { Filters.start with minuteTimer := some 9, restored := true }
    queue := { Queue.start with state := .synced, nSet := true } }

def joined : State := station .joined

def withCondition (c : LineCondition) (s : State) : State := { s with line := { s.line with condition := c } }

def withEntry (e : Entry) (s : State) : State := { s with queue := { s.queue with entries := [e] } }

def entry5 : Entry := { station := 5, serial := 255, shadow := none, hold := 0 }

def withSending (c : Content) (s : State) : State :=
  { s with line := { s.line with sending := some { content := c, bytes := [], counted := true } } }

/-- The report a quiet peer sends, and its payload. -/
def quiet : Report :=
  { mode := .normal, stage := .clear, reduction10 := 0, claim := 60, lineNotClear := false, backoff := false,
    curbed := false, filterDue := false, skew := false, entryPresent := false, entryGranted := false, copyState := .synced,
    entrySerial := 0, n := 0, filterLife := 0, termsVersion := 0, time := 0 }

def quietBytes : StatusBytes := encodeStatus quiet

/-- A usable terms set of version 1, and of version 2 with another stack limit. -/
def terms1 : Terms := { Terms.defaults with version := 1 }

def terms2 : Terms := { Terms.defaults with version := 2, stackLimit := 900 }

def held (r : Report) (j : Station) (age : Nat) (s : State) : State :=
  { s with peers := { s.peers with
      records := s.peers.records.set j { presence := if age < 2 then .present else .stale, age := age, fields := some r } } }

def withStage (x : FrostStage) (s : State) : State := { s with frost := { s.frost with stage := x } }

def reads (v : Int) : Channel := { state := .valid, reading := some v, bad := 0, good := 0 }

def withExhaust (v : Int) (s : State) : State := { s with sensors := { s.sensors with tX := reads v } }

def withFan (f : Fan) (s : State) : State := { s with supplyFan := f }

def fanIn (x : FanState) (attempts : Nat) : Fan := { Fan.start with state := x, attempts := attempts }

def withReply (r : ReplyState) (s : State) : State := { s with panel := { s.panel with reply := r } }

def wanting (out : Outgoing) (s : State) : State := { s with out := out }

def informed (b : Bool) (s : State) : State := { s with own := { s.own with eligible := b } }

/-- The characters of bytes received with good stop bits on the panel line. -/
def received (bytes : List Byte) : List RxChar := bytes.map (fun b => { byte := b, stopGood := true })

/-- A character whose stop bit is dominant. -/
def badStop : CharLevels := (charLevels 0x10).set 9 .dominant

/-- What a command leaves, for a state that a statement speaks of after it. -/
def after (c : Instr) (s : State) : State :=
  match exec c s with
  | .next t => t
  | .fault _ => s
  | .refused _ => s

def waiting : State := { joined with panel := { joined.panel with restartWait := some 5 } }

/-! ### Well-formedness -/

theorem test_wf_refuses_an_unbroken_frame : Instr.wf (.receiveError []) = false := by decide

theorem test_wf_refuses_a_gap_in_hunt : Instr.wf (.panelAssemblyTimeout (received [0x01])) = false := by decide

theorem test_wf_refuses_a_good_request : Instr.wf (.badFormat (received [0xA5, 0x02, 0x02, 0x05, 0x1E, 0x27])) = false := by
  decide

theorem test_wf_admits_a_bad_stop : Instr.wf (.receiveError [badStop]) = true := by decide

theorem test_wf_admits_a_long_request : Instr.wf (.badFormat (received [0xA5, 0x02, 0x11])) = true := by decide

theorem test_wf_refuses_good_characters : Instr.wf (.receiveError ([0x25, 0x01, 0x3C, 0x2D].map charLevels)) = false := by
  decide +kernel

/-! ### Worked examples of the spec -/

/-- R3: 0x25 is the levels 0, 1010 0100, 1 in the order they are driven. -/
theorem test_character_of_25 : (charLevels 0x25).toList.map (fun l => decide (l = .recessive))
    = [false, true, false, true, false, false, true, false, false, true] := by decide

/-- R3: a recessive start bit is a glitch and forms no character. -/
theorem test_glitch : receiveChar ((charLevels 0x25).set 0 .recessive) = none := by decide

/-- R181: inputs that nothing drives read number 15, pull-up set, override clear, class 0. -/
theorem test_floating_straps : strapLevels { levels := 0xE0, floating := 0xFF } = 0x1F
    ∧ strapLevels { levels := 0xE5, floating := 0 } = 0xE5 := by decide

/-- R9, R11: station 5 with a GIVE pending begins it ten bit times after the slots start. -/
theorem test_slot_of_a_give : bitsToSlot (wanting { Outgoing.empty with give := true } joined) = some 10 := by decide

/-- 12.7: station 5's TAKE with serial 60. -/
theorem test_frame_of_12_7 : frameBytes 5 (.take 0x3C) = [0x25, 0x01, 0x3C, 0x2D] := by decide +kernel

/-- 12.7: the reply to a boost request. -/
theorem test_reply_of_12_7 : replyBytes { kind := .done, code := 2, data := [] } = [0x5A, 0x00, 0x02, 0x00, 0x02] := by decide

/-- 4.3: trim +3, cap 120, imbalance 10. -/
theorem test_plan_of_4_3 : balanceStep (trimStep (frostStep 150 0) 3) (min 150 120) 10 = (132, 120) := by decide

/-- 4.3: reduction 30, trim −2. -/
theorem test_frost_plan_of_4_3 : balanceStep (trimStep (frostStep 50 30) (-2)) 50 10 = (33, 36) := by decide

/-- R48: version 0 is older than every other. -/
theorem test_versions : newerVersion 1 0 = true ∧ newerVersion 0 200 = false ∧ newerVersion 6 5 = true := by decide

/-- The run of a start: restore, three samples, three round ticks. -/
def started : State :=
  [Instr.nvRestore, .strapSample ⟨0x75, 0⟩, .strapSample ⟨0x75, 0⟩, .strapSample ⟨0x35, 0⟩, .lineIdle, .roundTick, .roundTick,
    .roundTick].foldl (fun s c => after c s) State.reset

theorem test_start : started.join.membership = .joined ∧ ownNumber started = some 5 ∧ started.plan.extract = 75
    ∧ started.supplyFan.state = .starting ∧ started.queue.state = .synced ∧ started.out.status = true := by
  decide +kernel

/-! ### Hypotheses met -/

theorem test_meets_EveryCommandsFrame : ∃ t, exec .slotBegins joined = .next t ∧ Instr.slotBegins ≠ .powerOn := ⟨_, rfl, by decide⟩

theorem test_meets_IdleStepRunsTheClock :
    let s := { joined with clock := { joined.clock with time := 604799, sub := 63 } }
    ({ joined with power := .held } : State).pending = [] ∧ ({ joined with power := .held } : State).power ≠ .running
      ∧ s.pending = [] ∧ s.power = .running ∧ clockRuled s ∧ s.clock.slew = 0 ∧ s.clock.withhold = 0 ∧ s.panel.restartWait = none := by
  refine ⟨rfl, by decide, rfl, rfl, ?_, rfl, rfl, rfl⟩
  unfold clockRuled; decide

theorem test_meets_StartsKeepOnlyTheRecord :
    joined.power ≠ .off ∧ joined.filters.save = .idle
      ∧ ({ State.reset with power := .off } : State).power ≠ .running ∧ Instr.lineIdle ≠ .powerOn := by decide

theorem test_meets_ThirdStrapSampleLatches :
    State.reset.power = .running ∧ State.reset.join.membership = .straps ∧ State.reset.join.samples = []
      ∧ State.reset.line.condition = .clear
      ∧ ({ State.reset with join := { Join.start with samples := [strapLevels ⟨1, 0⟩, strapLevels ⟨2, 0⟩] } } : State).join.samples
        = [strapLevels ⟨1, 0⟩, strapLevels ⟨2, 0⟩] := by decide

/-- Station 5 with a granted place in the given stage, the frost guard told or not, the supply fan in the given state. -/
def placed (x : FrostStage) (b : Bool) (f : FanState) : State :=
  informed b (withStage x (withFan (fanIn f 0) (withEntry entry5 joined)))

theorem test_meets_EndOfEvent :
    joined.frost.stage ≠ .stop ∧ (withStage .stop joined).frost.stage = .stop
      ∧ joined.join.straps = some straps5 ∧ State.reset.join.straps = none
      ∧ demandOf (classRow 0) { joined with stack := { joined.stack with demand := 60 } } = 60
      ∧ joined.own.eligible = eligibleNow joined ∧ joined.frost.stage ≠ .preheat ∧ (fanIn .stalled 4).attempts < 5
      ∧ (placed .reduce false .running).own.eligible = false ∧ eligibleNow (placed .reduce false .running) = true
      ∧ (placed .reduce false .running).frost.blind = false
      ∧ (placed .reduce false .running).supplyFan.state = .running
      ∧ (placed .reduce false .stopped).supplyFan.state = .stopped ∧ eligibleNow (placed .watch false .stopped) = true
      ∧ eligibleNow (informed true joined) = false ∧ (informed true joined).own.eligible = true
      ∧ eligibleNow (withCondition .doubt (placed .preheat true .running)) = false
      ∧ ownEntry (withCondition .doubt (placed .preheat true .running)) = some entry5
      ∧ granted (withCondition .doubt (placed .preheat true .running)) 5 = true
      ∧ ownEntry (informed true (withStage .preheat joined)) = none
      ∧ wantsTake (withStage .reduce joined) = true ∧ wantsTake joined = false := by decide

/-- The fan in each state of R71 to R76, with a target that is 0 and one that is not. -/
theorem test_meets_EndOfEvent_fans :
    (fanIn .stopped 0).state = .stopped ∧ (fanIn .starting 0).state = .starting ∧ (fanIn .stalled 5).state = .stalled
      ∧ 5 ≤ (fanIn .stalled 5).attempts ∧ (fanIn .stalled 4).attempts < 5 ∧ 60 * 16 ≠ 0 ∧ 0 * 16 = 0 := by decide

/-- Fans STALLED at five attempts and FAILED, both given a target of 0 by a held OFF. -/
theorem test_meets_EndOfEvent_failed :
    let s : State := withFan (fanIn .stalled 5) { joined with
      extractFan := fanIn .failed 5, mode := { joined.mode with held := some .off } }
    (fanOf s .supply).state = .stalled ∧ 5 ≤ (fanOf s .supply).attempts ∧ (settle s).plan.supply * classFactor (settle s) = 0
      ∧ (fanOf (settle s) .supply).state = .failed ∧ (fanOf s .extract).state = .failed := by decide +kernel

/-- A PREHEAT that an event leaves standing. -/
theorem test_meets_EndOfEvent_preheat : (settle (placed .preheat true .running)).frost.stage = .preheat := by decide +kernel

theorem test_meets_LineLevels :
    joined.power = .running ∧ joined.line.receiverOn = true ∧ joined.line.condition = .clear
      ∧ joined.panel.restartWait = none ∧ (withCondition .stuck joined).line.condition = .stuck
      ∧ (withCondition .muted joined).line.condition = .muted
      ∧ (withCondition .stuck State.reset).line.receiverReady = false := by decide

/-- R42: a ready receiver, and none while the line is held; ready again at the next idle. -/
theorem test_no_frame_in_stuck :
    let stuck := after .lineStuck joined
    canReceive joined = true ∧ stuck.line.condition = .stuck ∧ canReceive stuck = false
      ∧ after (.statusTaken 3 quietBytes) stuck = stuck ∧ after (.receiveError [badStop]) stuck = stuck
      ∧ canReceive (after .lineIdle stuck) = true := by decide +kernel

theorem test_meets_SlotAndItsFrame :
    let run : State := { joined with line := { joined.line with run := some { seed := 0, remaining := 8 } } }
    ownNumber joined = some 5 ∧ joined.line.idle = true ∧ joined.line.sending = none ∧ joined.join.membership = .joined
      ∧ joined.line.condition = .clear ∧ ownEntry joined = none ∧ joined.queue.state ≠ .rebuild ∧ joined.out.give = false
      ∧ nextWanted { joined with out := { joined.out with status := true } } = some .status
      ∧ ({ joined with own := { joined.own with leaving := some 0 }, out := { joined.out with give := true } } : State).own.leaving
        = some 0
      ∧ run.line.run = some { seed := 0, remaining := 8 } := by decide

/-- The frames of DOUBT and LISTEN, the declined ones, and the slot count within a tick and beyond it. -/
theorem test_meets_SlotAndItsFrame_others :
    let give := wanting { Outgoing.empty with give := true } { joined with own := { joined.own with leaving := some 0 } }
    let set := wanting { Outgoing.empty with terms := some .set } joined
    let take := wanting { Outgoing.empty with take := true } (withEntry entry5 joined)
    (withCondition .doubt joined).line.condition = .doubt ∧ joined.own.leaving = none
      ∧ ownEntry (wanting { Outgoing.empty with give := true } (withEntry entry5 joined)) = some entry5
      ∧ (ownEntry take).isSome = true ∧ take.out.take = true ∧ ({ joined.queue with state := .rebuild } : Queue).state = .rebuild
      ∧ (station .listen).join.membership = .listen ∧ (station .listen).out.terms ≠ some .query
      ∧ (wanting { Outgoing.empty with terms := some .query } (station .listen)).out.terms = some .query
      ∧ bitsToSlot give = some 10 ∧ nextWanted give = some .give ∧ buildContent give .give = some (.give 0)
      ∧ nextWanted set = some .set ∧ bitsToSlot set = some 106 ∧ set.line.slotTime = some 0
      ∧ bitsToSlot joined = none ∧ nextWanted joined = none := by decide

theorem test_meets_LostLineKeepsTheFrame :
    (withSending (.give 0) joined).line.sending = some { content := .give 0, bytes := [], counted := true }
      ∧ joined.out.terms = none
      ∧ (withSending .termsQuery (station .listen)).join.membership = .listen := by decide

theorem test_meets_MutedByFaultOrDuplicate :
    (withSending (.give 0) joined).line.sending.isSome = true ∧ joined.panel.restartWait = none ∧ canReceive joined = true
      ∧ ownNumber joined = some 5 ∧ (wanting { Outgoing.empty with give := true, take := true } joined).out.give = true
      ∧ (withCondition .muted joined).line.condition = .muted := by decide

/-- A run in progress, its TEST pending, being sent, or neither. -/
theorem test_meets_MutedByFaultOrDuplicate_run :
    let s : State := { joined with line := { joined.line with run := some { seed := 7, remaining := 2 } } }
    s.line.run = some { seed := 7, remaining := 2 } ∧ s.out.test = false
      ∧ (wanting { Outgoing.empty with test := true } s).out.test = true
      ∧ ((withSending (.test 7) s).line.sending.map Sending.content) = some (.test 7)
      ∧ ((withSending (.give 0) s).line.sending.map Sending.content) = some (.give 0)
      ∧ 8 ≤ min 31 (7 + 1) := by decide

theorem test_meets_MutedByFaultOrDuplicate_frames :
    frameFrom 5 (.statusTaken 5 quietBytes) ∧ frameFrom 5 (.takeTaken 5 0) ∧ frameFrom 5 (.giveTaken 5 0)
      ∧ frameFrom 5 (.termsQueryTaken 5) ∧ frameFrom 5 (.termsSetTaken 5 (encodeTerms terms1))
      ∧ frameFrom 5 (.testTaken 5 (Vector.replicate 16 0)) := by
  simp [frameFrom]

theorem test_meets_OwnFrameCompletes :
    let test := withSending (.test 7) joined
    let run : State := { test with line := { test.line with run := some { seed := 7, remaining := 2 } } }
    ownNumber joined = some 5 ∧ (withSending (.take 0) joined).line.sending.isSome = true ∧ joined.queue.n = 0
      ∧ joined.queue.state = .synced ∧ entryOf joined.queue 5 = none ∧ joined.panel.restartWait = none
      ∧ (withCondition .doubt joined).line.condition = .doubt ∧ (withCondition .doubt joined).line.errors ≤ 1
      ∧ run.line.run = some { seed := 7, remaining := 2 } ∧ run.join.membership = .joined ∧ run.line.condition = .clear := by
  decide

/-- The own TAKE in each copy state, with an own entry in it and without. -/
theorem test_meets_OwnFrameCompletes_take :
    let unsure : State := { withEntry entry5 joined with queue := { (withEntry entry5 joined).queue with state := .unsure } }
    joined.queue.state ≠ .rebuild ∧ unsure.queue.state ≠ .rebuild ∧ (entryOf unsure.queue 5).isSome = true
      ∧ (State.reset.queue.state = .rebuild ∧ State.reset.queue.nSet = false)
      ∧ ({ joined.queue with state := .rebuild } : Queue).nSet = true ∧ serialDistance 126 joined.queue.n ≤ 126
      ∧ 126 < serialDistance 127 joined.queue.n ∧ queueRuled unsure := by
  refine ⟨by decide, by decide, by decide, by decide, by decide, by decide, by decide, ?_⟩
  unfold queueRuled; decide

theorem test_meets_CheckByteRule :
    kindLengths (BitVec.toNat (0x25 : Byte) / 16) = some [1] ∧ BitVec.toNat (1 : Byte) ∈ [1] ∧ [(0x3C : Byte)].length = 1
      ∧ checkByte [0x25, 1, 0x3C] = 0x2D := by decide +kernel

theorem test_meets_LastSenderRule :
    joined.power = .running ∧ canReceive joined = true ∧ ownNumber joined ≠ some 0
      ∧ (withSending .termsQuery joined).line.sending.isSome = true ∧ joined.panel.restartWait = none := by decide

theorem test_meets_ErrorCountFollowsFrames :
    let full : State := { joined with line := { joined.line with errors := 31 } }
    canReceive joined = true ∧ ownNumber joined ≠ some 15 ∧ (receiveFault (receiveChars [badStop])).isSome = true
      ∧ full.line.condition = .clear ∧ full.join.terms.errorThreshold ≤ min 31 (full.line.errors + 1)
      ∧ (withCondition .doubt joined).line.errors ≤ 1 := by decide

/-- The characters of each receive error of R7. -/
theorem test_meets_ErrorCountFollowsFrames_faults :
    receiveFault (receiveChars []) = none
      ∧ kindLengths (BitVec.toNat (0x65 : Byte) / 16) = none ∧ kindLengths (BitVec.toNat (0x25 : Byte) / 16) = some [1]
      ∧ BitVec.toNat (1 : Byte) ∈ [1] ∧ BitVec.toNat (2 : Byte) ∉ [1]
      ∧ (∃ c ∈ ([{ byte := 0x3C, stopGood := false }] : List RxChar).take 2, c.stopGood = false)
      ∧ (∀ c ∈ received [0x3C], c.stopGood = true) ∧ (received [0x3C]).length ≤ BitVec.toNat (1 : Byte) := by decide

theorem test_meets_StatusUpdatesTheRecord :
    decodeStatus quietBytes = some quiet ∧ decodeStatus { quietBytes with b0 := 8 } = none
      ∧ canReceive joined = true ∧ ownNumber joined = some 5 ∧ ownNumber joined ≠ some 3 ∧ ownNumber State.reset = none
      ∧ ((held quiet 4 0 joined).peers.records.get 4).presence ≠ .absent
      ∧ ∀ i < (5 : Station), (joined.peers.records.get i).presence = .absent := by decide

/-- A report of another version, the filters restored or not, and a claim within the limit; the over-committed riser stands
with OverLimitCutsAndBackoffEnds. -/
theorem test_meets_StatusUpdatesTheRecord_consumed :
    let s : State := { joined with stack := { joined.stack with demand := 60 } }
    let other : Report := { quiet with termsVersion := 7 }
    decodeStatus (encodeStatus other) = some other ∧ joined.join.skew = false
      ∧ skewNow (after (.statusTaken 3 (encodeStatus other)) joined) = true
      ∧ joined.filters.restored = true ∧ (station .listen).join.membership ≠ .joined ∧ s.line.condition ≠ .doubt
      ∧ s.join.straps = some straps5 ∧ demandOf (classRow 0) s = s.stack.demand
      ∧ (after (.statusTaken 3 quietBytes) s).stack.demand = s.stack.demand
      ∧ (after (.statusTaken 3 quietBytes) s).join.skew = s.join.skew
      ∧ ¬ (after (.statusTaken 3 quietBytes) s).join.terms.stackLimit
          < ((heldReports (after (.statusTaken 3 quietBytes) s)).map Report.claim).sum + s.stack.claim := by decide +kernel

theorem test_meets_ReportCorrectsTheCopy :
    let present : Report := { quiet with entryPresent := true, entrySerial := 255, copyState := .unsure }
    let q := joined.queue
    let q5 := (withEntry entry5 joined).queue
    q.state ≠ .rebuild ∧ present.copyState ≠ .synced ∧ entryOf q 5 = none ∧ serialDistance q.n present.entrySerial < 240
      ∧ entryOf q5 5 = some entry5 ∧ entry5.serial = present.entrySerial ∧ entry5.serial ≠ (0 : Byte)
      ∧ serialDistance 0 q5.n ≤ Terms.defaults.ahead ∧ (entryOf q5 5).isSome = true := by decide

/-- N of a SYNCED sender level with, ahead of and far from the copy's, an entry too old to stand, and a copy in REBUILD. -/
theorem test_meets_ReportCorrectsTheCopy_others :
    let q := (withEntry entry5 joined).queue
    let n (v : Byte) : Report := { quiet with n := v }
    quiet.copyState = .synced ∧ serialDistance (n 0).n q.n = 0 ∧ 128 ≤ serialDistance (n 200).n q.n
      ∧ (1 ≤ serialDistance (n 8).n q.n ∧ serialDistance (n 8).n q.n ≤ Terms.defaults.ahead)
      ∧ (Terms.defaults.ahead < serialDistance (n 127).n q.n ∧ serialDistance (n 127).n q.n ≤ 127)
      ∧ (q.entries.map Entry.station).Nodup ∧ entryOf q 5 = some entry5
      ∧ ¬ (serialDistance 16 q.n ≤ Terms.defaults.ahead ∨ serialDistance q.n 16 < 240)
      ∧ State.reset.queue.state = .rebuild ∧ entryOf State.reset.queue 5 = none := by decide

/-- A report that moves N past a missed TAKE, and one that does not, with another station's entry in the copy. -/
theorem test_meets_ReportCorrectsTheCopy_neighbours :
    let q := (withEntry entry5 joined).queue
    let present : Report := { quiet with entryPresent := true, entrySerial := 8, copyState := .unsure }
    entryOf (q.reportN Terms.defaults present) 3 = none ∧ present.entryPresent = true
      ∧ serialDistance present.entrySerial (q.reportN Terms.defaults present).n ≤ Terms.defaults.ahead
      ∧ quiet.entryPresent ≠ true ∧ entryOf q 5 = some entry5 ∧ (5 : Station) ≠ 3 := by decide

theorem test_meets_TakeAndGiveInTheCopy :
    joined.queue.state ≠ .rebuild ∧ joined.join.terms.usable = true
      ∧ serialDistance 0 joined.queue.n = 0 ∧ serialDistance 8 joined.queue.n ≤ joined.join.terms.ahead
      ∧ 256 - joined.join.terms.behind ≤ serialDistance 255 joined.queue.n
      ∧ joined.join.terms.ahead < serialDistance 128 joined.queue.n
      ∧ serialDistance 128 joined.queue.n < 256 - joined.join.terms.behind
      ∧ entryOf (withEntry entry5 joined).queue 5 = some entry5 ∧ entryOf joined.queue 3 = none
      ∧ State.reset.queue.state = .rebuild ∧ State.reset.queue.nSet = false := by decide

theorem test_meets_TakeAndGiveInTheCopy_neighbours :
    queueRuled (withEntry entry5 joined) ∧ (5 : Station) ≠ 3 ∧ entryOf (withEntry entry5 joined).queue 5 = some entry5
      ∧ ({ State.reset.queue with nSet := true } : Queue).nSet = true ∧ serialDistance 126 State.reset.queue.n ≤ 126
      ∧ 126 < serialDistance 127 State.reset.queue.n := by
  refine ⟨?_, by decide, by decide, by decide, by decide, by decide⟩
  unfold queueRuled; decide

theorem test_meets_TermsFramesTaken :
    decodeTerms (encodeTerms terms1) = some terms1 ∧ decodeTerms { encodeTerms terms1 with b3 := 5 } = none
      ∧ (withCondition .doubt joined).line.condition = .doubt ∧ canReceive (withCondition .stuck joined) = true
      ∧ (station .listen).join.membership = .listen ∧ (station .listen).join.best = none
      ∧ newerVersion terms2.version terms1.version = true
      ∧ terms1.agrees { terms2 with version := 1 } = false ∧ terms1.agrees terms1 = true ∧ (2 : Station) < 3 := by decide

theorem test_meets_TestFramesTallied :
    (∀ i : Fin 16, (Vector.ofFn (fun i : Fin 16 => BitVec.ofNat 8 (7 + 37 * i.val))).get i
      = BitVec.ofNat 8 (((Vector.ofFn (fun i : Fin 16 => BitVec.ofNat 8 (7 + 37 * i.val))).get 0).toNat + 37 * i.val))
      ∧ (∃ i : Fin 16, (Vector.replicate 16 (0 : Byte)).get i
        ≠ BitVec.ofNat 8 (((Vector.replicate 16 (0 : Byte)).get 0).toNat + 37 * i.val)) := by
  constructor
  · decide
  · exact ⟨1, by decide⟩

theorem test_meets_RoundTickAgesTheRecords :
    joined.peers.roundTimer.isSome = true ∧ ((held quiet 3 0 joined).peers.records.get 3).age = 0
      ∧ ((held quiet 3 1 joined).peers.records.get 3).age = 1 ∧ ((held quiet 3 2 joined).peers.records.get 3).age = 2
      ∧ ((held quiet 3 2 joined).peers.records.get 3).presence ≠ .absent
      ∧ (joined.peers.records.get 3).presence = .absent := by decide

/-- A copy in each state with each countdown, the ticks of LISTEN, a departure and none, a backoff, another version. -/
theorem test_meets_RoundTickAgesTheRecords_taken :
    let q (x : CopyState) (n : Nat) : Queue := { joined.queue with state := x, rebuild := n, confirm := n }
    let s : State := { joined with stack := { joined.stack with demand := 60 } }
    (q .rebuild 0).rebuild = 0 ∧ (q .rebuild 1).rebuild = 1 ∧ 2 ≤ (q .rebuild 2).rebuild ∧ (q .unsure 1).confirm ≤ 1
      ∧ 2 ≤ (q .unsure 2).confirm ∧ joined.queue.state = .synced
      ∧ (station .listen).join.membership = .listen ∧ 2 ≤ (station .listen).join.listenTicks
      ∧ (started.join.listenTicks = 3 ∧ (station .straps).join.membership = .straps)
      ∧ departsNext (held quiet 3 2 joined) 3 = true ∧ (∀ j : Station, departsNext joined j = false)
      ∧ 2 ≤ ({ joined.stack with backoff := 2 } : Stack).backoff
      ∧ skewNow (after .roundTick (held { quiet with termsVersion := 7 } 3 0 joined)) = true ∧ joined.join.skew = false
      ∧ demandOf (classRow 0) s = s.stack.demand ∧ (after .roundTick s).stack.demand = s.stack.demand
      ∧ (after .roundTick s).join.skew = s.join.skew := by decide +kernel

theorem test_meets_DepartureClearsTheRecord :
    ((held quiet 3 2 joined).peers.records.get 3).held = true ∧ 2 ≤ ((held quiet 3 2 joined).peers.records.get 3).age
      ∧ joined.queue.state ≠ .rebuild ∧ State.reset.queue.state = .rebuild
      ∧ joined.join.straps = some straps5 := by decide

theorem test_meets_EndOfListenSelectsTerms :
    (station .listen).join.membership = .listen ∧ 2 ≤ (station .listen).join.listenTicks
      ∧ (station .listen).join.straps = some straps5 ∧ straps5.override = false
      ∧ newerVersion terms1.version Terms.defaults.version = true
      ∧ ({ straps5 with override := true } : Straps).override = true := by decide

/-- E at the new threshold and below it, and an own entry at the new hold limit. -/
theorem test_meets_EndOfListenSelectsTerms_applied :
    let s := withEntry { entry5 with hold := 600 * 64 } (station .listen)
    let e : State := { station .listen with line := { (station .listen).line with errors := 8 } }
    (selectTerms s.join).1.holdLimit * 64 ≤ 600 * 64 ∧ ownNumber s = some 5 ∧ (s.queue.entries.map Entry.station).Nodup
      ∧ e.line.condition = .clear ∧ (selectTerms e.join).1.errorThreshold ≤ e.line.errors
      ∧ (station .listen).line.errors < (selectTerms e.join).1.errorThreshold
      ∧ (station .listen).queue.entries = [] := by decide

theorem test_meets_CopyBecomesSynced :
    ({ joined.queue with state := .rebuild, rebuild := 1 } : Queue).rebuild = 1
      ∧ ({ joined.queue with state := .unsure, confirm := 1 } : Queue).confirm ≤ 1 := by decide

theorem test_meets_GrantsHoldsAndOwnPlace :
    queueRuled (withEntry entry5 joined) ∧ granted (withEntry entry5 joined) 5 = true
      ∧ entryOf (withEntry { entry5 with shadow := some 0 } joined).queue 5 = some { entry5 with shadow := some 0 }
      ∧ State.reset.queue.state = .rebuild ∧ ownNumber joined = some 5 := by
  refine ⟨?_, by decide, by decide, by decide, by decide⟩
  unfold queueRuled; decide

/-- A place wanted, a TAKE pending or being sent, an own entry in the copy, each with the timers that give it up. -/
theorem test_meets_GrantsHoldsAndOwnPlace_place :
    let f (x : FrostStage) : Frost := { joined.frost with
      stage := x, clearTimer := some 0, stopTimer := some 0, reTake := some 0 }
    let full : State := { placed .preheat true .running with line := { joined.line with errors := 31 } }
    wantsTake (withStage .reduce joined) = true ∧ wantsTake joined = false
      ∧ (wanting { Outgoing.empty with take := true } joined).out.take = true
      ∧ sendingTake (withSending (.take 0) joined) = true ∧ joined.join.membership = .joined
      ∧ ownEntry (withEntry entry5 joined) = some entry5 ∧ sendingTake (withEntry entry5 joined) = false
      ∧ (withCondition .muted (withEntry entry5 joined)).line.condition = .muted ∧ ownEntry joined = none
      ∧ ({ joined with frost := f .reduce } : State).own.eligible = eligibleNow { joined with frost := f .reduce }
      ∧ wantsTake { joined with frost := { f .reduce with reTake := none } } = true
      ∧ (f .preheat).stopTimer.isSome = true ∧ (f .preheat).clearTimer.isSome = true
      ∧ canReceive full = true ∧ (receiveFault (receiveChars [badStop])).isSome = true ∧ full.line.condition = .clear
      ∧ full.join.terms.errorThreshold ≤ min 31 (full.line.errors + 1) ∧ full.own.eligible = eligibleNow full
      ∧ eligibleNow full = true ∧ ownEntry full = some entry5 ∧ full.panel.restartWait = none
      ∧ ownNumber full ≠ some 3 ∧ full.queue.state ≠ .rebuild
      ∧ (full.join.terms.ahead < serialDistance 128 full.queue.n
        ∧ serialDistance 128 full.queue.n < 256 - full.join.terms.behind) := by decide

/-- A panel OFF with a TAKE pending, with an own entry, and in STOP. -/
theorem test_meets_GrantsHoldsAndOwnPlace_off :
    portFree (wanting { Outgoing.empty with take := true } joined) ∧ joined.frost.stage ≠ .stop
      ∧ (portFree (placed .preheat true .running) ∧ ownEntry (placed .preheat true .running) = some entry5
        ∧ (placed .preheat true .running).out.take = false ∧ sendingTake (placed .preheat true .running) = false
        ∧ (placed .preheat true .running).join.membership = .joined)
      ∧ portFree (withStage .stop joined) :=
  ⟨⟨rfl, rfl, rfl⟩, by decide, ⟨⟨rfl, rfl, rfl⟩, by decide⟩, rfl, rfl, rfl⟩

/-- An own TAKE that completes in a stage that wants no place, with no GIVE pending and with one. -/
theorem test_meets_GrantsHoldsAndOwnPlace_appears :
    let s := withSending (.take 0) joined
    s.line.sending = some { content := .take s.queue.n, bytes := [], counted := true } ∧ s.queue.state = .synced
      ∧ ownEntry s = none ∧ s.out.take = false ∧ s.frost.stage = .clear ∧ s.out.give = false ∧ s.join.membership = .joined
      ∧ s.line.condition = .clear ∧ (wanting { Outgoing.empty with give := true } s).out.give = true
      ∧ (withCondition .muted s).line.condition = .muted
      ∧ ({ s.frost with stage := .reduce, blind := true } : Frost).blind = true := by decide

/-- Ten stations held, 1060 claimed by the nine others. -/
def fullRiser : State :=
  [(0 : Station), 1, 2, 3, 4, 6, 7, 8].foldl (fun s j => held { quiet with claim := 120 } j 0 s)
    (held { quiet with claim := 100 } 9 0 joined)

theorem test_meets_CapTable :
    fullRiser.join.terms.stackLimit = 1200 ∧ presenceCount fullRiser = 10
      ∧ (fullRiser.join.terms.stackLimit : Int) - ((heldReports fullRiser).map Report.claim).sum = 140
      ∧ fullRiser.stack.backoff = 0 ∧ fullRiser.join.skew = false ∧ fullRiser.join.membership = .joined
      ∧ fullRiser.line.condition = .clear ∧ (withCondition .doubt fullRiser).line.condition ≠ .clear := by decide +kernel

/-- The same riser with a claim of 150 of the station's own. -/
def overRiser : State :=
  { fullRiser with
    join := { fullRiser.join with straps := some { straps5 with fanClass := 2 } }
    mode := { fullRiser.mode with boost := some 64 }
    plan := { fullRiser.plan with extract := 150 }
    stack := { demand := 150, cap := 150, claim := 150, backoff := 0 } }

theorem test_meets_OverLimitCutsAndBackoffEnds :
    (overRiser.join.terms.stackLimit < peerClaims overRiser + overRiser.stack.claim
      ∧ overRiser.join.terms.stackLimit / presenceCount overRiser < overRiser.stack.claim)
      ∧ claimRuled overRiser ∧ demandOf (classRow 2) overRiser = overRiser.stack.demand
      ∧ ¬ (joined.join.terms.stackLimit < peerClaims joined + joined.stack.claim)
      ∧ ({ overRiser.stack with backoff := 1 } : Stack).backoff = 1 := by
  refine ⟨by decide +kernel, ?_, by decide +kernel, by decide +kernel, by decide⟩
  unfold claimRuled; decide +kernel

/-- The same riser as a STATUS and a round tick find it. -/
theorem test_meets_over_limit_at_a_tick_and_a_status :
    let cut (t : State) := t.join.terms.stackLimit < ((heldReports t).map Report.claim).sum + overRiser.stack.claim
      ∧ t.join.terms.stackLimit / presenceCount t < overRiser.stack.claim
    cut (after .roundTick overRiser) ∧ cut (after (.statusTaken 0 (encodeStatus { quiet with claim := 120 })) overRiser)
      ∧ overRiser.line.condition ≠ .doubt ∧ (∀ j : Station, departsNext overRiser j = false) := by decide +kernel

/-- A new demand within the limit; and, with seventeen stations counted, one that is over it. -/
theorem test_meets_EndOfEvent_demand :
    let many : State := { withCondition .doubt joined with
      mode := { joined.mode with boost := some 64 }
      peers := { joined.peers with records := .replicate 16 { presence := .present, age := 0, fields := some { quiet with claim := 120 } } } }
    let claim (s : State) := (eightSteps (classRow 0) (settle s) (capFor s (demandOf (classRow 0) (settle s)))).2.2
    (told joined ∧ told many) ∧ capFormed joined ∧ presenceCount joined ≤ 16
      ∧ demandOf (classRow 0) (settle joined) ≠ joined.stack.demand ∧ demandOf (classRow 0) (settle many) ≠ many.stack.demand
      ∧ ¬ (joined.join.terms.stackLimit < ((heldReports joined).map Report.claim).sum + claim joined)
      ∧ many.join.terms.stackLimit < ((heldReports many).map Report.claim).sum + claim many
      ∧ many.join.terms.stackLimit / presenceCount many < claim many := by
  refine ⟨⟨?_, ?_⟩, ?_, by decide +kernel, by decide +kernel, by decide +kernel, by decide +kernel, by decide +kernel,
    by decide +kernel⟩
  · unfold told; decide +kernel
  · unfold told; decide +kernel
  · unfold capFormed; decide +kernel

/-- A station over the limit, and one within it, whose line sticks. -/
theorem test_meets_LineLevels_limit :
    let t := after .lineStuck overRiser
    let u := after .lineStuck joined
    (t.join.terms.stackLimit < ((heldReports t).map Report.claim).sum + overRiser.stack.claim
      ∧ t.join.terms.stackLimit / presenceCount t < overRiser.stack.claim) ∧ overRiser.line.condition = .clear
      ∧ overRiser.line.receiverOn = true ∧ overRiser.panel.restartWait = none
      ∧ ¬ u.join.terms.stackLimit < ((heldReports u).map Report.claim).sum + joined.stack.claim
      ∧ presenceCount u ≤ 16 := by decide +kernel

/-- A station over the limit, and one within it, that a departure finds. -/
theorem test_meets_DepartureClearsTheRecord_limit :
    let s : State := { held { quiet with claim := 100 } 9 2 overRiser with
      join := { overRiser.join with terms := { overRiser.join.terms with stackLimit := 1000 } } }
    let t := after (.peerDeparture 9) s
    (t.join.terms.stackLimit < ((heldReports t).map Report.claim).sum + s.stack.claim
      ∧ t.join.terms.stackLimit / presenceCount t < s.stack.claim)
      ∧ let q := { held quiet 3 2 joined with stack := { joined.stack with demand := 60 } }
        let u := after (.peerDeparture 3) q
        ¬ u.join.terms.stackLimit < ((heldReports u).map Report.claim).sum + q.stack.claim
          ∧ demandOf (classRow 0) q = q.stack.demand ∧ u.stack.demand = q.stack.demand := by decide +kernel

theorem test_meets_EffectiveModeFirstMatch :
    baseMode joined.mode ≠ .off ∧ baseMode { joined.mode with held := some .off } = .off
      ∧ (withStage .stop joined).frost.stage = .stop ∧ (fanIn .failed 5).state = .failed
      ∧ ¬ (joined.supplyFan.state = .failed ∨ joined.extractFan.state = .failed) ∧ joined.mode.boost = none
      ∧ ({ joined.mode with boost := some 1 } : ModeRecord).boost.isSome = true ∧ joined.humid.state ≠ .boost := by decide

theorem test_meets_BalanceWithinTheLimit :
    (20 : Nat) ≤ 20 ∧ 79 * 100 < 100 * (100 - 20) ∧ 100 * (100 + 20) < 121 * 100 ∧ 100 * (100 - 20) ≤ 80 * 100
      ∧ 120 * 100 ≤ 100 * (100 + 20) := by decide

theorem test_meets_ModeSetRule :
    portFree joined ∧ heldOfCode (BitVec.toNat (1 : Byte)) = some .normal ∧ (BaseMode.normal ≠ .off)
      ∧ joined.frost.stage ≠ .stop ∧ 10 ≤ BitVec.toNat (10 : Byte) ∧ BitVec.toNat (120 : Byte) ≤ 120
      ∧ (5 < BitVec.toNat (6 : Byte)) ∧ BitVec.toNat (9 : Byte) < 10
      ∧ (withStage .stop joined).frost.stage = .stop ∧ portFree (withStage .stop joined)
      ∧ (64 ≤ seconds 1 ∧ seconds 1 < 65)
      ∧ ({ joined with mode := { joined.mode with boost := some 65 } } : State).mode.boost = some 65 := by
  refine ⟨⟨rfl, rfl, rfl⟩, by decide, by decide, by decide, by decide, by decide, by decide, by decide, rfl, ⟨rfl, rfl, rfl⟩,
    by decide, rfl⟩

theorem test_meets_SpeedMeasuredAndHeld :
    joined.supplyFan.state = .stopped ∧ (fanIn .running 0).state = .running ∧ (fanIn .running 0).lastEdge = none
      ∧ ({ fanIn .running 0 with lastEdge := some 0 } : Fan).lastEdge = some 0 ∧ 7499 < 0 + 7500 ∧ 0 + 7500 ≤ 7500 := by decide

theorem test_meets_FanTimersMoveTheFan :
    (fanOf (withFan { fanIn .starting 4 with edgeSeen := true } joined) .supply).edgeSeen = true
      ∧ (fanIn .starting 4).edgeSeen = false ∧ ({ fanIn .running 4 with stallWindow := some 0 } : Fan).stallWindow.isSome = true
      ∧ (fanIn .stalled 4).attempts < 5 ∧ 5 ≤ (fanIn .stalled 5).attempts := by decide

theorem test_meets_FanClearRule :
    portFree (withFan (fanIn .failed 5) joined) ∧ sideOfByte 0 = some .supply
      ∧ (fanOf (withFan (fanIn .failed 5) joined) .supply).state = .failed ∧ (fanOf joined .extract).state ≠ .failed
      ∧ 1 < BitVec.toNat (2 : Byte) := by
  refine ⟨⟨rfl, rfl, rfl⟩, by decide, by decide, by decide, by decide⟩

theorem test_meets_ScanUpdatesChannelsAndLimit :
    joined.power = .running ∧ joined.sensors.scanTimer.isSome = true
      ∧ anyLost { joined.sensors with tX := { reads 0 with bad := 2 } }
          (({ joined.sensors with tX := { reads 0 with bad := 2 } } : Sensors).take .openInput .openInput .openInput .openInput
            .openInput) = true
      ∧ joined.join.membership = .joined ∧ baseMode joined.mode ≠ .off ∧ joined.frost.stage ≠ .stop
      ∧ (Channel.lost.state = .invalid ∧ Channel.lost.good = 0) := by decide

/-- The frost guard in each stage and the readings a scan may bring: cold, mild, no T_x, T_x below, at and above its limits;
the humidity reading; a spoiled and a clean period. -/
theorem test_meets_ScanUpdatesChannelsAndLimit_stages :
    let L := joined.join.terms.frostBase + humidLift joined.sensors.hE.value
    let clean : State := { joined with
      sensors := { joined.sensors with tO := reads 0, tS := reads 84, tE := reads 100, tX := reads 20, hE := reads 49 } }
    let cold : State := { joined with sensors := { joined.sensors with tO := reads (-20) } }
    let mild : State := { joined with sensors := { joined.sensors with tO := reads 1 } }
    L = 40 ∧ joined.join.membership = .joined ∧ baseMode joined.mode ≠ .off ∧ State.reset.join.membership ≠ .joined
      ∧ joined.frost.blind = false ∧ joined.sensors.tX.value = none
      ∧ (∀ o, cold.sensors.tO.value = some o → o ≤ -20) ∧ (∃ o, mild.sensors.tO.value = some o ∧ 0 < o)
      ∧ ¬ (∀ o, mild.sensors.tO.value = some o → o ≤ -20) ∧ (withExhaust 90 joined).sensors.tX.value = some 90
      ∧ joined.frost.stage = .clear ∧ (withStage .watch joined).frost.stage = .watch ∧ joined.own.eligible = false
      ∧ (withStage .reduce joined).frost.blind = false
      ∧ ({ joined.frost with stage := .reduce, blind := true } : Frost).blind = true
      ∧ clean.sensors.hE.value = some ((49 : Nat) : Int) ∧ clean.humid.count < 29 ∧ Channel.lost.state = .invalid
      ∧ joined.sensors.hE.state = .starting ∧ joined.sensors.tO.value = none
      ∧ (clean.sensors.tO.value = some 0 ∧ clean.sensors.tS.value = some 84 ∧ clean.sensors.tE.value = some 100
        ∧ clean.sensors.tX.value = some 20 ∧ ¬ ((100 : Int) - 0 < 100)) := by
  refine ⟨by decide, rfl, by decide, by decide, rfl, rfl, ?_, ⟨1, by decide⟩, ?_, by decide⟩
  · intro o h; cases h; decide
  · intro h; exact absurd (h 1 rfl) (by decide)

/-- WATCH and BLIND with the eligibility set and T_x read, the supply fan moving and not, and a thirtieth sample. -/
theorem test_meets_ScanUpdatesChannelsAndLimit_eligible :
    let s := withExhaust 0 (placed .watch true .running)
    let blind : State := { withExhaust 0 (placed .reduce true .stopped) with
      frost := { joined.frost with stage := .reduce, blind := true } }
    let full : State := { joined with
      sensors := { joined.sensors with hE := reads 49 }, humid := { joined.humid with count := 29 } }
    s.sensors.tX.value = some 0 ∧ (0 : Int) < s.join.terms.frostBase + humidLift s.sensors.hE.value
      ∧ s.own.eligible = true ∧ s.supplyFan.state = .running ∧ s.frost.stage = .watch
      ∧ blind.own.eligible = true ∧ blind.frost.blind = true ∧ blind.frost.stage = .reduce
      ∧ blind.supplyFan.state = .stopped ∧ blind.sensors.tX.value = some 0
      ∧ full.sensors.hE.value = some ((49 : Nat) : Int) ∧ 29 ≤ full.humid.count := by decide

/-- A station in the given stage with a reduction, its step timer at its end and T_x read. -/
def stepping (x : FrostStage) (r : Nat) (v : Int) : State :=
  withExhaust v { joined with frost := { joined.frost with stage := x, reduction := r, stepTimer := some 0 } }

theorem test_meets_StepTimerJudgesTheReduction :
    let s := stepping .reduce 10 50
    s.frost.stepTimer.isSome = true ∧ s.sensors.tX.state = .valid ∧ s.sensors.tX.reading = some 50 ∧ told s
      ∧ s.frost.tLim + 10 ≤ 50 ∧ s.frost.reduction = 10 ∧ (stepping .reduce 60 39).frost.tLim > 39
      ∧ 10 < (stepping .reduce 60 50).frost.reduction ∧ s.frost.tLim ≤ 40 ∧ (40 : Int) < s.frost.tLim + 10
      ∧ (stepping .preheat 20 29).frost.tLim - 10 > 29
      ∧ seconds 300 ≤ ({ s.frost with preheatOn := seconds 300 } : Frost).preheatOn
      ∧ s.frost.preheatOn < seconds 300 := by
  refine ⟨rfl, rfl, rfl, ?_, by decide, rfl, by decide, by decide, by decide, by decide, by decide, by decide, by decide⟩
  unfold told; decide

theorem test_meets_FrostTimersMoveTheStage :
    let f (x : FrostStage) : Frost := { joined.frost with
      stage := x, clearTimer := some 0, stopTimer := some 0, thawTimer := some 0, reTake := some 0 }
    (f .watch).clearTimer.isSome = true ∧ (f .watch).stage = .watch ∧ (f .preheat).stopTimer.isSome = true
      ∧ (f .stop).thawTimer.isSome = true ∧ (f .clear).reTake.isSome = true ∧ baseMode joined.mode ≠ .off
      ∧ blindHolds joined = true ∧ blindHolds (withExhaust 0 joined) = false
      ∧ baseMode { joined.mode with held := some .off } = .off := by decide

/-- A step with T_x not VALID, and a step to 0 with an own entry and with a TAKE pending. -/
theorem test_meets_StepTimerJudgesTheReduction_others :
    let unread : State := { joined with frost := (stepping .reduce 10 50).frost }
    let entry := withEntry entry5 (informed true (stepping .reduce 10 50))
    unread.sensors.tX.state ≠ .valid ∧ unread.frost.stage = .reduce ∧ unread.frost.stepTimer.isSome = true
      ∧ entry.own.eligible = eligibleNow entry ∧ ownEntry entry = some entry5 ∧ entry.out.take = false
      ∧ sendingTake entry = false ∧ entry.frost.reduction = 10 ∧ entry.frost.tLim + 10 ≤ 50
      ∧ ownEntry (stepping .reduce 10 50) = none
      ∧ (wanting { Outgoing.empty with take := true } (stepping .reduce 10 50)).out.take = true := by decide

/-- H_e read at 49 with the accumulator one sample short, in the given humidity state. -/
def humidAt (x : HumidState) (minutes : Nat) : State :=
  { joined with
    sensors := { joined.sensors with hE := reads 49 }
    humid := { joined.humid with sum := 29 * 49, count := 29, state := x, boostMinutes := minutes, restMinutes := minutes } }

theorem test_meets_HumidityJudged :
    (humidAt .idle 0).sensors.hE.state = .valid ∧ (humidAt .idle 0).sensors.hE.reading = some ((49 : Nat) : Int)
      ∧ (humidAt .idle 0).humid.count = 29 ∧ (humidAt .idle 0).frost.stage ≠ .stop
      ∧ (humidAt .idle 0).humid.frostStop = false
      ∧ rises [50, 0, 45] = true ∧ rises [49] = false ∧ ((29 * 49 + 49) / 30 : Nat) ≤ joined.join.terms.humidLower
      ∧ (humidAt .boost 8).humid.boostMinutes + 1 < 10 ∧ 10 ≤ (humidAt .boost 9).humid.boostMinutes + 1
      ∧ (humidAt .boost 58).humid.boostMinutes + 1 < 60 ∧ 59 ≤ (humidAt .boost 59).humid.boostMinutes
      ∧ (humidAt .rest 28).humid.restMinutes + 1 < 30 ∧ 29 ≤ (humidAt .rest 29).humid.restMinutes := by decide

theorem test_meets_FilterStateFirstMatch :
    let life (used : Nat) := used * 100 / (joined.join.terms.filterLife * 30000)
    let whole := joined.join.terms.filterLife * 30000
    125 ≤ life (whole * 5 / 4) ∧ life (whole * 5 / 4 - 1) < 125 ∧ 100 ≤ life whole ∧ life 0 < 85
      ∧ Filter.lost.unknown = true ∧ Filter.start.unknown = false ∧ Filter.start.reference = none
      ∧ ({ Filter.start with reference := some 1 } : Filter).reference.isSome = true := by decide +kernel

theorem test_meets_AccountingMinuteAddsFlow :
    joined.power = .running ∧ joined.filters.minuteTimer.isSome = true := by decide

/-- A qualifying minute while a filter learns, at its 1440th and in the hour, at the hour mark and at a period's end. -/
theorem test_meets_AccountingMinuteAddsFlow_qualifying :
    let s (f : Filter) : State := withFan { fanIn .running 0 with duty := 128, measured := 960 } { joined with
      filters := { joined.filters with supply := f, supplyMinute := true, minuteCount := 59, period := 14 } }
    let learnt : Filter := { Filter.start with reference := some 136, hourMinutes := 29 }
    minuteKept (s .start) .supply = true ∧ (fanOf (s .start) .supply).state = .running
      ∧ 0 < (fanOf (s .start) .supply).measured ∧ (filterOf (s .start) .supply).reference = none
      ∧ (filterOf (s .start) .supply).learnMinutes < 1439
      ∧ 1439 ≤ (filterOf (s { Filter.start with learnMinutes := 1439 }) .supply).learnMinutes
      ∧ (filterOf (s learnt) .supply).reference = some 136 ∧ 29 ≤ (filterOf (s learnt) .supply).hourMinutes
      ∧ 59 ≤ (s learnt).filters.minuteCount ∧ 14 ≤ (s learnt).filters.period ∧ joined.filters.minuteCount < 59
      ∧ joined.filters.period < 14 ∧ minuteKept joined .supply = false ∧ Filter.start.hourMinutes < 29
      ∧ (s learnt).filters.minuteTimer.isSome = true := by decide

theorem test_meets_ReferenceAndHourMark :
    let s : State := withFan { fanIn .running 0 with duty := 128, measured := 1 } { joined with filters := { joined.filters with
      supply := { Filter.start with learnMinutes := 1439 }, supplyMinute := true, minuteCount := 59 } }
    (filterOf s .supply).reference = none ∧ (filterOf s .supply).learnMinutes = 1439 ∧ minuteKept s .supply = true
      ∧ (fanOf s .supply).state = .running ∧ 0 < (fanOf s .supply).measured ∧ 59 ≤ s.filters.minuteCount
      ∧ 30 ≤ ({ Filter.start with hourMinutes := 30, reference := some 1 } : Filter).hourMinutes := by decide

theorem test_meets_TrimPeriodMovesTheTrim :
    let s : State := { joined with
      filters := { joined.filters with period := 14, spoiled := false, trim := 31 }
      sensors := { joined.sensors with tO := reads 0, tS := reads 84, tE := reads 100, tX := reads 20 } }
    14 ≤ s.filters.period ∧ s.filters.spoiled = false ∧ -32 ≤ s.filters.trim ∧ s.filters.trim ≤ 31
      ∧ s.sensors.tO.value = some 0 ∧ s.sensors.tS.value = some 84 ∧ s.sensors.tE.value = some 100
      ∧ s.sensors.tX.value = some 20 ∧ (3 * (100 - 0) : Int) < 100 * ((84 - 0) - (100 - 20))
      ∧ (100 * ((76 - 0) - (100 - 20)) : Int) < -3 * (100 - 0) ∧ (100 * ((83 - 0) - (100 - 20)) : Int) ≤ 3 * (100 - 0) := by
  decide

theorem test_meets_RecordSavedAndRestored :
    let blank := State.reset.nv.content
    State.reset.filters.restored = false ∧ State.reset.filters.save = .idle ∧ State.reset.panel.reply = .none
      ∧ State.reset.nv.good = false ∧ (Nv.ofContent blank).good = true
      ∧ (({ State.reset.filters with save := .writing blank } : Filters).save = .writing blank) := by decide +kernel

/-- The three save states at an hour mark, and a good record whose supply filter is found due. -/
theorem test_meets_RecordSavedAndRestored_save :
    let s (x : SaveState) : State := { joined with filters := { joined.filters with save := x, minuteCount := 59 } }
    let blank := State.reset.nv.content
    let due : NvContent := { blank with supply := { blank.supply with used := 18000000 } }
    let t := after .nvRestore { State.reset with nv := Nv.ofContent due }
    (s .idle).filters.save = .idle ∧ (s (.writing blank)).filters.save = .writing blank
      ∧ (s (.queued blank)).filters.save = .queued blank ∧ 59 ≤ (s .idle).filters.minuteCount
      ∧ (Nv.ofContent due).good = true ∧ t.filters.supply.notice = true ∧ t.filters.extract.notice = false := by decide +kernel

theorem test_meets_FilterRequests :
    portFree joined ∧ joined.filters.restored = true ∧ portFree State.reset ∧ State.reset.filters.restored = false
      ∧ sideOfByte 1 = some .extract ∧ 1 < BitVec.toNat (2 : Byte) ∧ State.reset.filters.save = .idle
      ∧ (withReply (.deferred (.ack 1)) State.reset).panel.reply = .deferred (.ack 1)
      ∧ (withReply (.deferred (.reset 1)) State.reset).panel.reply = .deferred (.reset 1) :=
  ⟨⟨rfl, rfl, rfl⟩, rfl, ⟨rfl, rfl, rfl⟩, rfl, rfl, by decide, rfl, rfl, rfl⟩

def sunday23 : SchedEntry := { days := 0x40, hourOn := true, hour := 23, minuteOn := true, minute := 59, mode := .night }

/-- The last 1/64 s before a minute; a step to it leaves the running entry not due (R173). -/
theorem test_meets_MinutesAndSlew_due :
    let s : State := { joined with clock := { joined.clock with time := 604799, sub := 63 } }
    (s.clock.withhold = 0 ∧ 63 ≤ s.clock.sub ∧ (s.clock.time + 1) % 60 = 0) ∧ (after .minuteEntered s).clock.time = 0
      ∧ ¬ (63 ≤ joined.clock.sub) ∧ exec .minuteEntered (setClock 604799 32 s) = .next (setClock 604799 32 s) :=
  ⟨by decide, by decide +kernel, by decide, rfl⟩

theorem test_meets_MinutesAndSlew :
    sunday23.fires 604740 = true ∧ sunday23.fires 604739 = false
      ∧ firedMode [none, some sunday23] 604740 = some .night
      ∧ (0 : Int) < ({ joined.clock with slew := 128 } : Clock).slew ∧ joined.clock.sub < 63 ∧ (0 + 1) % 60 ≠ 0
      ∧ ({ joined.clock with time := 604799, sub := 63, slew := 1 } : Clock).sub = 63 ∧ (604799 + 1) % 60 = 0
      ∧ ({ joined.clock with slew := -128 } : Clock).slew < 0 ∧ joined.clock.slew = 0 := by decide

theorem test_meets_SourceReportMovesTheClock :
    decodeStatus quietBytes = some quiet ∧ timeDifference 2 0 = 2 ∧ timeDifference 0 604798 = 2 ∧ timeDifference 3 0 = 3
      ∧ sourceNow (held quiet 4 0 joined) = some 4 ∧ sourceNow joined = none
      ∧ 59 / 60 = joined.clock.time / 60 ∧ 60 / 60 ≠ joined.clock.time / 60 := by decide

theorem test_meets_ClockRequests :
    portFree joined ∧ 604799 < BitVec.toNat (604800 : BitVec 24) ∧ BitVec.toNat (604799 : BitVec 24) ≤ 604799
      ∧ joined.clock.source = none ∧ ({ joined.clock with source := some 0 } : Clock).source.isSome = true
      ∧ BitVec.toNat (7 : Byte) < 8 ∧ 8 ≤ BitVec.toNat (8 : Byte)
      ∧ decodeEntry (encodeEntry (some sunday23)) = some (some sunday23)
      ∧ decodeEntry { encodeEntry (some sunday23) with b1 := 0x98 } = none :=
  ⟨⟨rfl, rfl, rfl⟩, by decide, by decide, rfl, rfl, by decide, by decide, by decide, by decide⟩

theorem test_meets_ReadsChangeOnlyTheReply :
    portFree joined ∧ BitVec.toNat (15 : Byte) < 16 ∧ ownNumber joined ≠ some 15 ∧ ownNumber joined = some 5
      ∧ 16 ≤ BitVec.toNat (16 : Byte) := ⟨⟨rfl, rfl, rfl⟩, by decide, by decide, by decide, by decide⟩

theorem test_meets_PortTakesOneRequestAtATime :
    requestOf (.fanClear 2) = some (8, [2]) ∧ waiting.panel.reply = .none ∧ waiting.panel.restartWait.isSome = true
      ∧ (withReply (.sending { kind := .done, code := 1, data := [] }) joined).panel.reply ≠ .none := by decide

theorem test_meets_TermsTestAndEventRequests :
    portFree (station .listen) ∧ (station .listen).join.membership = .listen ∧ joined.join.membership ≠ .listen
      ∧ decodeTerms (encodeTerms terms1) = some terms1 ∧ decodeTerms { encodeTerms terms1 with b3 := 5 } = none
      ∧ BitVec.toNat (0 : Byte) < 1 ∧ 8 < BitVec.toNat (9 : Byte) ∧ 1 ≤ BitVec.toNat (1 : Byte) ∧ BitVec.toNat (8 : Byte) ≤ 8
      ∧ (withCondition .doubt joined).line.condition ≠ .clear ∧ 16383 < BitVec.toNat (16384 : BitVec 16)
      ∧ BitVec.toNat (16383 : BitVec 16) ≤ 16383 :=
  ⟨⟨rfl, rfl, rfl⟩, by decide, by decide, by decide, by decide, by decide, by decide, by decide, by decide, by decide,
    by decide, by decide⟩

theorem test_meets_RestartRule :
    let s := withEntry entry5 joined
    let sent := withSending (.give 255) { s with panel := { s.panel with restartWait := some 1 } }
    portFree s ∧ restartGivesUp s = true ∧ ownEntry s = some entry5 ∧ s.out.take = false ∧ sendingTake s = false
      ∧ restartGivesUp joined = false ∧ sent.panel.restartWait.isSome = true ∧ ownNumber sent = some 5
      ∧ sent.line.sending.isSome = true ∧ sent.line.receiverOn = true ∧ sent.line.condition = .clear
      ∧ ({ sent.out with give := true } : Outgoing).give = true ∧ (fanIn .failed 5).state = .failed
      ∧ (fanIn .stalled 5).attempts = 5 ∧ (fanIn .stalled 4).attempts ≠ 5
      ∧ ({ joined.panel with restartDue := true } : Panel).restartDue = true := by
  refine ⟨⟨rfl, rfl, rfl⟩, ?_⟩
  decide

/-- A restart wait with a GIVE pending, with one being sent, and with none. -/
theorem test_meets_RestartRule_muted :
    (wanting { Outgoing.empty with give := true } waiting).out.give = true
      ∧ (withSending (.give 255) waiting).line.sending.isSome = true
      ∧ (∀ v, Content.termsQuery ≠ .give v) ∧ waiting.out.give = false ∧ waiting.panel.restartWait.isSome = true
      ∧ canReceive waiting = true ∧ ownNumber waiting = some 5 ∧ frameFrom 5 (.termsQueryTaken 5) := by
  refine ⟨rfl, rfl, ?_, rfl, rfl, rfl, by decide, by simp [frameFrom]⟩
  intro v h; cases h

theorem test_meets_PortEvents :
    partialRequest [0xA5] = true ∧ BitVec.toNat (16 : Byte) ≤ 16 ∧ 16 < BitVec.toNat (17 : Byte)
      ∧ sumByte [2, 2, 5, 0x1E] = 0x27 ∧ sumByte [2, 2, 5, 0x1E] ≠ 0 ∧ requestLength 16 = none ∧ requestLength 2 = some 2
      ∧ ({ joined.lamp with level := .blinking } : Lamp).level = .blinking ∧ joined.panel.reply = .none
      ∧ joined.panel.restartDue = false := by decide

theorem test_meets_LayoutsRoundTrip :
    ({ quiet with reduction10 := 6, claim := 255, filterLife := 255, time := 604799, entryPresent := true,
                  entryGranted := true } : Report).usable = true
      ∧ terms1.usable = true ∧ decodeTerms (encodeTerms terms1) = some terms1 ∧ sunday23.hour ≤ 23 ∧ sunday23.minute ≤ 59
      ∧ sunday23.hourOn = true ∧ (quiet.reduction10 ≤ 6 ∧ quiet.claim ≤ 255 ∧ quiet.filterLife ≤ 255 ∧ quiet.time ≤ 604799)
      ∧ ((charLevels 0x25).set 0 .recessive).get 0 = Level.recessive := by decide

theorem test_meets_StepsKeepTheFanRule : fansRuled joined ∧ ∃ t, step { joined with pending := [.slotBegins] } = .next t := by
  refine ⟨?_, _, rfl⟩
  simp [fansRuled, Fan.ruled, joined, station, State.reset, Fan.start]

theorem test_meets_StepsKeepTheClaimAndStopRules :
    (claimRuled joined ∧ stopRuled joined) ∧ ∃ t, step { joined with pending := [.slotBegins] } = .next t := by
  refine ⟨⟨?_, ?_⟩, _, rfl⟩
  · unfold claimRuled; decide
  · unfold stopRuled; decide

theorem test_meets_StepsKeepTheClaimAndStopRules_cap :
    capFormed joined ∧ ∃ t, step { joined with pending := [.lineStuck] } = .next t := by
  refine ⟨?_, _, rfl⟩
  unfold capFormed; decide +kernel

theorem test_meets_StepsKeepTheQueueRule :
    (queueRuled (withEntry entry5 joined) ∧ orderRuled (withEntry entry5 joined))
      ∧ ∃ t, step { withEntry entry5 joined with pending := [.slotBegins] } = .next t := by
  refine ⟨⟨?_, fun _ => ⟨by decide, List.pairwise_singleton _ _⟩⟩, _, rfl⟩
  unfold queueRuled; decide

theorem test_meets_StepsKeepTheOutputRules :
    (lampRuled joined ∧ told joined ∧ preheaterRuled joined)
      ∧ ∃ t, step { joined with pending := [.slotBegins] } = .next t := by
  refine ⟨⟨?_, ?_, ?_⟩, _, rfl⟩
  · unfold lampRuled; decide
  · unfold told; decide
  · unfold preheaterRuled; decide

theorem test_meets_StepsKeepTheRanges :
    (termsRuled State.reset ∧ clockRuled State.reset ∧ countsRuled State.reset)
      ∧ ∃ t, step { State.reset with pending := [.strapSample ⟨0, 0⟩] } = .next t := by
  refine ⟨⟨⟨by decide, by simp [State.reset, Join.start], by simp [State.reset, Join.start]⟩, ?_, ?_⟩, _, rfl⟩
  · unfold clockRuled; decide
  · simp [countsRuled, State.reset, Line.start]

/-- A STUCK station keeps the receiver's rule, and so does the step that sticks the line. -/
theorem test_meets_StepsKeepTheRanges_stuck :
    receiverRuled (after .lineStuck joined) ∧ receiverRuled joined
      ∧ ∃ t, step { joined with pending := [.lineStuck] } = .next t := by
  refine ⟨?_, ?_, _, rfl⟩ <;> unfold receiverRuled <;> decide +kernel

end Sys2Proof.Tests
end

section
/-! SUPPORT. The check byte (R6): how the register takes one more byte, what the receiver finds on whole characters, and the
statement O14. -/

namespace Sys2Proof.Machine

/-! ### The register (R6) -/

/-- One shift of the register, with the bit shifted out read as bit 7. -/
theorem crcShift_eq (c : Byte) : crcShift c = if c.getLsbD 7 then (c <<< 1) ^^^ 0x1D#8 else c <<< 1 := by
  simp [crcShift, BitVec.msb_eq_getLsbD_last]

/-- A byte is taken by exclusive-OR and eight shifts. -/
theorem crcByte_eq_iterate (c b : Byte) : crcByte c b = crcShift^[8] (c ^^^ b) := rfl

theorem checkByte_concat (bytes : List Byte) (b : Byte) : checkByte (bytes ++ [b]) = crcByte (checkByte bytes) b := by
  simp [checkByte]

/-! ### The receiver on whole characters (R5, R7) -/

/-- Characters whose stop bits are all recessive. -/
def goodChars (bytes : List Byte) : List RxChar := bytes.map (fun b => { byte := b, stopGood := true })

theorem goodChars_bytes (bytes : List Byte) : (goodChars bytes).map RxChar.byte = bytes := by
  simp [goodChars, Function.comp_def]

theorem goodChars_stops (bytes : List Byte) : (goodChars bytes).any (fun c => !c.stopGood) = false := by
  simp [goodChars]

/-- Of a frame with a known kind, an accepted length and all its characters, only the check byte is left to judge. -/
theorem receiveFault_whole {header length check : Byte} {payload : List Byte} {lengths : List Nat}
    (hkind : kindLengths (header.toNat / 16) = some lengths) (hlength : length.toNat ∈ lengths)
    (hpayload : payload.length = length.toNat) :
    receiveFault (goodChars (header :: length :: payload ++ [check])) =
      if checkByte (header :: length :: payload) = check then none else some .checkMismatch := by
  have hheard : (goodChars (payload ++ [check])).take (length.toNat + 1) = goodChars (payload ++ [check]) :=
    List.take_of_length_le (by simp [goodChars, hpayload])
  have hcount : (goodChars (payload ++ [check])).length = length.toNat + 1 := by simp [goodChars, hpayload]
  have hsplit : goodChars (header :: length :: payload ++ [check]) =
      { byte := header, stopGood := true } :: { byte := length, stopGood := true } :: goodChars (payload ++ [check]) := rfl
  have hbody : (payload ++ [check]).take length.toNat = payload := by rw [← hpayload, List.take_left]
  rw [hsplit]
  simp [receiveFault, hkind, hlength, hheard, hcount, goodChars_stops, goodChars_bytes, hbody]

/-! ### The frames the station sends (R5, R189) -/

theorem testPattern_length (seed : Byte) : (testPattern seed).length = 16 := by simp [testPattern]

/-- The receiver accepts the length of every payload that is sent (R5). -/
theorem payload_length_accepted (c : Content) :
    ∃ lengths, kindLengths c.kind = some lengths ∧ c.payload.length ∈ lengths := by
  cases c with
  | test seed => exact ⟨[16], rfl, by simp [Content.payload, testPattern_length]⟩
  | give _ => exact ⟨[1], rfl, by simp [Content.payload]⟩
  | take _ => exact ⟨[1], rfl, by simp [Content.payload]⟩
  | status _ => exact ⟨[12], rfl, by simp [Content.payload, statusList]⟩
  | termsQuery => exact ⟨[0, 15], rfl, by simp [Content.payload]⟩
  | termsSet _ => exact ⟨[0, 15], rfl, by simp [Content.payload, termsList]⟩

theorem kind_le (c : Content) : c.kind ≤ 5 := by cases c <;> simp [Content.kind]

/-- The receiver reads the kind out of the header byte. -/
theorem headerByte_kind (c : Content) (own : Station) : (headerByte c.kind own).toNat / 16 = c.kind := by
  have hkind := kind_le c
  have hown := own.isLt
  simp only [headerByte, byteOf, BitVec.toNat_ofNat]
  omega

/-- The length byte holds the payload's length whole. -/
theorem lengthByte_toNat (c : Content) : (byteOf c.payload.length).toNat = c.payload.length := by
  have hshort : c.payload.length ≤ 16 := by
    cases c <;> simp [Content.payload, statusList, termsList, testPattern_length]
  simp only [byteOf, BitVec.toNat_ofNat]
  omega

/-- A frame of the station's own is received without error. -/
theorem receiveFault_frameBytes (own : Station) (c : Content) : receiveFault (goodChars (frameBytes own c)) = none := by
  obtain ⟨lengths, hkind, hlength⟩ := payload_length_accepted c
  have hwhole := receiveFault_whole (header := headerByte c.kind own) (length := byteOf c.payload.length)
    (check := checkByte (headerByte c.kind own :: byteOf c.payload.length :: c.payload)) (payload := c.payload)
    (by rw [headerByte_kind]; exact hkind) (by rw [lengthByte_toNat]; exact hlength) (lengthByte_toNat c).symm
  rw [if_pos rfl] at hwhole
  exact hwhole

/-- Settles O14: the register byte by byte from `checkByte_concat`, the receiver from `receiveFault_whole`, and a sender's frame as
a whole frame of an accepted kind and length. -/
theorem checkByteRule : Obligations.CheckByteRule := by
  refine ⟨rfl, fun bytes b => ?_, fun _ _ => rfl, fun _ _ _ _ _ => receiveFault_whole, receiveFault_frameBytes⟩
  rw [checkByte_concat, crcByte_eq_iterate, funext crcShift_eq]

end Sys2Proof.Machine
end

section
/-! SUPPORT. The last-sender position (R10): what taking a frame, completing one and the changes of the line make of it, and the
statement O15. -/

namespace Sys2Proof.Machine

/-! ### What the consumers of a frame leave of the line (R8, R35, R50 to R52) -/

@[simp] theorem requestTerms_line (s : State) : (requestTerms s).line = s.line := by unfold requestTerms; split <;> rfl

@[simp] theorem answerQuery_line (s : State) : (answerQuery s).line = s.line := by unfold answerQuery; split <;> simp

@[simp] theorem deliverTerms_line (j : Station) (p : TermsBytes) (s : State) : (deliverTerms j p s).line = s.line := by
  unfold deliverTerms
  split
  · rfl
  · split
    · rfl
    · rfl
    · split <;> rfl

@[simp] theorem evaluateMinute_line (s : State) : (evaluateMinute s).line = s.line := by
  unfold evaluateMinute; split <;> rfl

@[simp] theorem setClock_line (time sub : Nat) (s : State) : (setClock time sub s).line = s.line := by
  simp only [setClock]; split <;> simp

@[simp] theorem clockReport_line (j : Station) (r : Report) (s : State) : (clockReport j r s).line = s.line := by
  have hsource : (formSource s).line = s.line := rfl
  simp only [clockReport]
  (repeat' split) <;> simp [hsource]

@[simp] theorem evaluateSkew_line (s : State) : (evaluateSkew s).line = s.line := by
  unfold evaluateSkew; split <;> simp

@[simp] theorem filterReport_line (s : State) : (filterReport s).line = s.line := by
  unfold filterReport; split <;> simp [formStates, setFilters]

@[simp] theorem consumeReport_line (j : Station) (r : Report) (s : State) : (consumeReport j r s).line = s.line := by
  simp [consumeReport, queueReport, recordReport]

@[simp] theorem deliverStatus_line (j : Station) (p : StatusBytes) (s : State) : (deliverStatus j p s).line = s.line := by
  unfold deliverStatus; split <;> simp

/-- What a frame of a peer does to the line beside being heard: a TEST moves the tally, and no frame moves more (R24). -/
theorem exec_frameFrom {j : Station} {c : Instr} (hc : frameFrom j c) :
    ∃ deliver : State → State, (∀ s, exec c s = live s (takeFrame j deliver)) ∧
      ∀ s, (deliver s).line = { s.line with tally := (deliver s).line.tally } := by
  rcases hc with ⟨p, rfl⟩ | ⟨v, rfl⟩ | ⟨v, rfl⟩ | rfl | ⟨p, rfl⟩ | ⟨p, rfl⟩
  · exact ⟨deliverStatus j p, fun _ => rfl, fun s => by simp⟩
  · exact ⟨queueTake j v, fun _ => rfl, fun s => by simp⟩
  · exact ⟨queueGive j v, fun _ => rfl, fun _ => rfl⟩
  · exact ⟨answerQuery, fun _ => rfl, fun s => by simp⟩
  · exact ⟨deliverTerms j p, fun _ => rfl, fun s => by simp⟩
  · exact ⟨tallyTest j p.toList, fun _ => rfl, fun _ => rfl⟩

/-- A valid frame of a peer sets the position to its sender. -/
theorem frameFrom_lastSender {s : State} {j : Station} {c : Instr} (hrun : s.power = .running)
    (hreceive : canReceive s = true) (hpeer : ownNumber s ≠ some j) (hc : frameFrom j c) :
    ∃ t, exec c s = .next t ∧ t.line.lastSender = j := by
  obtain ⟨deliver, hexec, hline⟩ := exec_frameFrom hc
  refine ⟨settle (deliver (heard j s)), ?_, ?_⟩
  · rw [hexec, live_running hrun, takeFrame_peer deliver hreceive hpeer]
  · rw [settle_line, hline, heard_line]

/-! ### Own frames (R14) -/

theorem requestTest_lastSender (s : State) : (requestTest s).line.lastSender = s.line.lastSender := by
  unfold requestTest; split <;> rfl

theorem runSent_lastSender (counted : Bool) (s : State) : (runSent counted s).line.lastSender = s.line.lastSender := by
  unfold runSent
  split
  · rfl
  · split
    · rfl
    · split
      · rfl
      · exact requestTest_lastSender _

/-- With no restart waiting, the completion of an own GIVE leaves the line as it is (R187). -/
theorem ownGiveSent_line {s : State} (own : Station) (serial : Byte) (hwait : s.panel.restartWait = none) :
    (ownGiveSent own serial s).line = s.line := by
  simp [ownGiveSent, queueGive, startReTake, hwait]

/-- What the completion brings beside being heard leaves the position, whatever the frame. -/
theorem deliverOwn_lastSender {s : State} (own : Station) (f : Sending) (hwait : s.panel.restartWait = none) :
    (deliverOwn own f s).line.lastSender = s.line.lastSender := by
  cases hcontent : f.content <;> simp only [deliverOwn, hcontent]
  case give serial => rw [ownGiveSent_line own serial hwait]
  case take serial => simp [ownTakeSent]
  case test seed =>
    rw [settle_line, runSent_lastSender]
    rfl
  case status | termsQuery | termsSet => rw [settle_line]

/-- An own frame that completes sets the position to the own number. -/
theorem completeFrame_lastSender {s : State} {own : Station} {f : Sending} (hown : ownNumber s = some own)
    (hsending : s.line.sending = some f) (hwait : s.panel.restartWait = none) :
    (completeFrame s).line.lastSender = own := by
  rw [completeFrame_own hown hsending, deliverOwn_lastSender own f (by simpa using hwait), heard_line]

/-! ### Broken frames and changes of the line (R4, R7, R13, R15, R20, R22) -/

theorem errorUp_lastSender (s : State) : (errorUp s).line.lastSender = s.line.lastSender := by
  simp only [errorUp]
  split
  · rw [enterDoubt_line]
  · rfl

theorem breakFrame_lastSender (chars : List RxChar) (s : State) :
    (breakFrame chars s).line.lastSender = s.line.lastSender := by
  unfold breakFrame
  split
  · rw [settle_line, errorUp_lastSender, receiverLost_line]
  · rfl

theorem lineGoesBusy_lastSender (s : State) : (lineGoesBusy s).line.lastSender = s.line.lastSender := by
  unfold lineGoesBusy; split <;> rfl

theorem lineFallsIdle_lastSender (s : State) : (lineFallsIdle s).line.lastSender = s.line.lastSender := by
  simp only [lineFallsIdle]
  split
  · split
    · rw [settle_line, enterDoubt_line]
    · rfl
  · rfl

theorem loseLine_lastSender (s : State) : (loseLine s).line.lastSender = s.line.lastSender := by
  unfold loseLine; split <;> rfl

theorem enterMuted_lastSender (cause : MutedCause) (s : State) :
    (enterMuted cause s).line.lastSender = s.line.lastSender := by
  simp only [enterMuted]
  split
  · rfl
  · simp [withdrawAll]

theorem enterMuted_panel (cause : MutedCause) (s : State) : (enterMuted cause s).panel = s.panel := by
  simp only [enterMuted]
  split
  · rfl
  · simp [withdrawAll]

/-- With no restart waiting, an event that changed the line ends as any event does (R187). -/
theorem afterLine_noWait {s : State} (giveGone : Bool) (hwait : s.panel.restartWait = none) :
    afterLine giveGone s = settle s := by
  simp [afterLine, hwait]

theorem failDriver_lastSender {s : State} (hwait : s.panel.restartWait = none) :
    (failDriver s).line.lastSender = s.line.lastSender := by
  unfold failDriver
  split
  · rfl
  · rw [afterLine_noWait _ (by rw [enterMuted_panel]; exact hwait), settle_line, enterMuted_lastSender]
    rfl

theorem lineSticks_lastSender {s : State} (hwait : s.panel.restartWait = none) :
    (lineSticks s).line.lastSender = s.line.lastSender := by
  by_cases hon : s.line.receiverOn = true
  · by_cases hcond : s.line.condition = .clear ∨ s.line.condition = .doubt
    · rw [lineSticks_line hon hcond hwait]
    · obtain ⟨hclear, hdoubt⟩ := not_or.mp hcond
      simp [lineSticks, hon, hclear, hdoubt]
  · simp [lineSticks, hon]

/-! ### Starts (R10, R43, R187) -/

theorem powerOnNow_lastSender (s : State) : (powerOnNow s).line.lastSender = 15 := rfl

theorem restartNow_line (s : State) : (restartNow s).line = State.reset.line := by simp [restartNow]

/-- With the position at 15, station 0 has the first slot of every class (R11). -/
theorem slotOf_zero_le (own : Station) (c : Nat) : slotOf 0 15 c ≤ slotOf own 15 c := by
  have hzero : slotOf 0 15 c = c * 16 := rfl
  rw [hzero]
  exact Nat.le_add_right _ _

/-- Settles O15: each way of moving the position by the lemma on its operation. -/
theorem lastSenderRule : Obligations.LastSenderRule := by
  refine ⟨fun _ _ _ => frameFrom_lastSender, ?_, ?_, ?_, slotOf_zero_le⟩
  · intro s own f hrun hown hsending hwait
    exact ⟨_, live_running hrun completeFrame, completeFrame_lastSender hown hsending hwait⟩
  · intro s chars b c hrun hc
    rcases hc with rfl | rfl | rfl | rfl | ⟨rfl | rfl, hwait⟩
    · exact ⟨_, live_running hrun _, breakFrame_lastSender (receiveChars chars) s⟩
    · exact ⟨_, live_running hrun _, lineGoesBusy_lastSender s⟩
    · exact ⟨_, live_running hrun _, lineFallsIdle_lastSender s⟩
    · exact ⟨_, live_running hrun _, loseLine_lastSender s⟩
    · exact ⟨_, live_running hrun _, lineSticks_lastSender hwait⟩
    · exact ⟨_, live_running hrun _, failDriver_lastSender hwait⟩
  · intro s
    exact ⟨⟨_, rfl, powerOnNow_lastSender s⟩, by rw [restartNow_line]; rfl⟩

end Sys2Proof.Machine
end

section
/-! SUPPORT. The stack share unit's figures and cap (R40, R81, R82): the record sums read station by station, one equation for
each entry of the cap table, and the statement O27. -/

namespace Sys2Proof.Machine

/-! ### P and the peers' claims over the stations (R40, R81) -/

/-- The peer records in station order. -/
theorem records_toList (s : State) :
    s.peers.records.toList = (List.finRange 16).map s.peers.records.get :=
  List.ext_getElem (by simp) (by simp [Vector.get])

theorem presenceCount_eq_length_filter (s : State) :
    presenceCount s =
      1 + ((List.finRange 16).filter (fun j => decide ((s.peers.records.get j).presence ≠ .absent))).length := by
  rw [presenceCount, records_toList, List.countP_map, List.countP_eq_length_filter]
  rfl

theorem heldReports_eq_filterMap (s : State) :
    heldReports s = (List.finRange 16).filterMap (fun j =>
      if (s.peers.records.get j).presence ≠ .absent then (s.peers.records.get j).fields else none) := by
  simp only [heldReports, records_toList, List.filterMap_map, Function.comp_def, PeerRecord.held, decide_eq_true_eq]

/-! ### The entries of the cap table, in order (R82) -/

/-- Entry 1: a station that is not a full member on a CLEAR line keeps to the lone share. -/
theorem capFor_outside {s : State} (d : Nat) (hclear : ¬ (s.join.membership = .joined ∧ s.line.condition = .clear)) :
    capFor s d = min d (loneShare s) := by
  have hentry : (s.join.membership ≠ .joined || s.line.condition ≠ .clear) = true := by
    simpa [imp_iff_not_or] using hclear
  rw [capFor, if_pos hentry]

/-- Past entry 1 the table goes on with the other three. -/
theorem capFor_clear {s : State} (d : Nat) (hclear : s.join.membership = .joined ∧ s.line.condition = .clear) :
    capFor s d =
      if 0 < s.stack.backoff || s.join.skew then min d (baseShare s)
      else if d ≤ baseShare s then d
      else (max (baseShare s : Int) (min (d : Int) (headroom s))).toNat := by
  have hentry : ¬ (s.join.membership ≠ .joined || s.line.condition ≠ .clear) = true := by simp [hclear]
  rw [capFor, if_neg hentry]

/-- Entry 2: backoff or terms skew takes the headroom away. -/
theorem capFor_hurt {s : State} (d : Nat) (hclear : s.join.membership = .joined ∧ s.line.condition = .clear)
    (hhurt : ¬ (s.stack.backoff = 0 ∧ s.join.skew = false)) : capFor s d = min d (baseShare s) := by
  have hentry : (0 < s.stack.backoff || s.join.skew) = true := by
    simpa [imp_iff_not_or, Nat.pos_iff_ne_zero] using hhurt
  rw [capFor_clear d hclear, if_pos hentry]

/-- Past entry 2 the base share decides between the last two. -/
theorem capFor_unhurt {s : State} (d : Nat) (hclear : s.join.membership = .joined ∧ s.line.condition = .clear)
    (hunhurt : s.stack.backoff = 0 ∧ s.join.skew = false) :
    capFor s d =
      if d ≤ baseShare s then d else (max (baseShare s : Int) (min (d : Int) (headroom s))).toNat := by
  have hentry : ¬ (0 < s.stack.backoff || s.join.skew) = true := by simp [hunhurt]
  rw [capFor_clear d hclear, if_neg hentry]

/-- Entry 3: a demand within the base share is given in full. -/
theorem capFor_withinShare {s : State} {d : Nat} (hclear : s.join.membership = .joined ∧ s.line.condition = .clear)
    (hunhurt : s.stack.backoff = 0 ∧ s.join.skew = false) (hd : d ≤ baseShare s) : capFor s d = d := by
  rw [capFor_unhurt d hclear hunhurt, if_pos hd]

/-- Entry 4: above the base share the headroom counts as far as the demand needs it; the cap is at least the base share, so
that a negative headroom takes nothing. -/
theorem capFor_aboveShare {s : State} {d : Nat} (hclear : s.join.membership = .joined ∧ s.line.condition = .clear)
    (hunhurt : s.stack.backoff = 0 ∧ s.join.skew = false) (hd : baseShare s < d) :
    (capFor s d : Int) = max (baseShare s : Int) (min (d : Int) (headroom s)) := by
  have hnonneg : 0 ≤ max (baseShare s : Int) (min (d : Int) (headroom s)) :=
    le_max_of_le_left (Int.natCast_nonneg _)
  rw [capFor_unhurt d hclear hunhurt, if_neg (Nat.not_le.mpr hd), Int.toNat_of_nonneg hnonneg]

/-! ### The figures of the rule's own table (R82) -/

/-- The riser of R82's example: L 1200, P 10 and the peers claiming 1060 in all; the tests' fullRiser is one. -/
def exampleRiser (s : State) : Prop :=
  s.join.terms.stackLimit = 1200 ∧ presenceCount s = 10 ∧ headroom s = 140

theorem exampleRiser_loneShare {s : State} (h : exampleRiser s) : loneShare s = 75 := by
  obtain ⟨hlimit, _, _⟩ := h
  rw [loneShare, hlimit]

theorem exampleRiser_baseShare {s : State} (h : exampleRiser s) : baseShare s = 120 := by
  obtain ⟨hlimit, hcount, _⟩ := h
  rw [baseShare, hlimit, hcount]

/-- The caps for the demands 180 and 100 in the rows of the example, each by its entry. -/
theorem exampleRiser_caps {s : State} (h : exampleRiser s) :
    let clear := s.join.membership = .joined ∧ s.line.condition = .clear
    let unhurt := s.stack.backoff = 0 ∧ s.join.skew = false
    (¬ clear → capFor s 180 = 75 ∧ capFor s 100 = 75) ∧
    (clear → ¬ unhurt → capFor s 180 = 120 ∧ capFor s 100 = 100) ∧
    (clear → unhurt → capFor s 180 = 140 ∧ capFor s 100 = 100) := by
  have hlone := exampleRiser_loneShare h
  have hbase := exampleRiser_baseShare h
  obtain ⟨_, _, hheadroom⟩ := h
  refine ⟨fun hclear => ?outside, fun hclear hhurt => ?hurt, fun hclear hunhurt => ?full⟩
  case outside => simp [capFor_outside _ hclear, hlone]
  case hurt => simp [capFor_hurt _ hclear hhurt, hbase]
  case full =>
    have habove := capFor_aboveShare (d := 180) hclear hunhurt (by omega)
    rw [hbase, hheadroom] at habove
    exact ⟨by omega, capFor_withinShare hclear hunhurt (by omega)⟩

/-- Settles O27: P and the claims by their sums over the stations, the table by the lemma on each entry. -/
theorem capTable : Obligations.CapTable := fun s d =>
  ⟨presenceCount_eq_length_filter s, heldReports_eq_filterMap s, capFor_outside d, capFor_hurt d,
    capFor_withinShare, capFor_aboveShare, capFor_le s d, Nat.min_eq_right (capFor_le s d),
    fun hlimit hcount hheadroom => exampleRiser_caps ⟨hlimit, hcount, hheadroom⟩⟩

end Sys2Proof.Machine
end

section
/-! SUPPORT. The judgement of a scan's conversions (R176, R177): the sample each conversion yields, the sample each channel
takes, and the statement O35. -/

namespace Sys2Proof.Machine

/-! ### One conversion (R176) -/

@[simp] theorem goodSample_openInput (low high : Int) : goodSample low high .openInput = none := rfl

@[simp] theorem goodSample_shortInput (low high : Int) : goodSample low high .shortInput = none := rfl

/-- The range's two ends belong to it. -/
theorem goodSample_reading (low high v : Int) :
    goodSample low high (.reading v) = if low ≤ v ∧ v ≤ high then some v else none := by
  simp only [goodSample, Bool.and_eq_true, decide_eq_true_eq]

/-! ### The five channels of a scan (R175, R176) -/

section
variable (x : Sensors) (o s e q h : Conversion)

@[simp] theorem Sensors.take_tO : (x.take o s e q h).tO = x.tO.take (goodSample (-400) 850 o) := rfl

@[simp] theorem Sensors.take_tS : (x.take o s e q h).tS = x.tS.take (goodSample (-400) 850 s) := rfl

@[simp] theorem Sensors.take_tE : (x.take o s e q h).tE = x.tE.take (goodSample (-400) 850 e) := rfl

@[simp] theorem Sensors.take_tX : (x.take o s e q h).tX = x.tX.take (goodSample (-400) 850 q) := rfl

@[simp] theorem Sensors.take_hE : (x.take o s e q h).hE = x.hE.take (goodSample 0 100 h) := rfl

end

/-! ### The reading a consumer sees (R178) -/

theorem Channel.value_of_valid {c : Channel} (hvalid : c.state = .valid) : c.value = c.reading := if_pos hvalid

/-- STARTING and INVALID are alike to a consumer. -/
theorem Channel.value_of_not_valid {c : Channel} (hvalid : c.state ≠ .valid) : c.value = none := if_neg hvalid

theorem Channel.value_eq_some_iff (c : Channel) (v : Int) :
    c.value = some v ↔ c.state = .valid ∧ c.reading = some v := by
  by_cases hvalid : c.state = .valid
  · simp [Channel.value_of_valid hvalid, hvalid]
  · simp [Channel.value_of_not_valid hvalid, hvalid]

/-- Settles O35: a conversion's sample by its form, each channel by its own conversion, and a reading that counts only in
VALID. -/
theorem conversionsJudged : Obligations.ConversionsJudged :=
  ⟨goodSample_reading,
    fun low high => ⟨goodSample_openInput low high, goodSample_shortInput low high⟩,
    fun x o s e q h => ⟨x.take_tO o s e q h, x.take_tS o s e q h, x.take_tE o s e q h, x.take_tX o s e q h,
      x.take_hE o s e q h⟩,
    Channel.value_eq_some_iff⟩

end Sys2Proof.Machine
end

section
/-! SUPPORT. What every event keeps: the kept rules of Safety.lean and the frame of a command gathered in relations of two
states, which compose, so that the meaning of each command is taken apart once for all of the rules. -/

namespace Sys2Proof.Machine

-- One proof after the other, so that the check of the whole text stays within its limit of threads.
set_option Elab.async false

/-! ### The relations -/

/-- What a command may move beyond what all of them may: the nonvolatile record (R163), the schedule (R171), the event flags
downward (R188), the used counts (R153). -/
structure Scope where
  record : Bool := false
  schedule : Bool := false
  flags : Bool := false
  used : Bool := false
deriving DecidableEq

/-- The frame of a command of the scope. -/
structure Framed (m : Scope) (s u : State) : Prop where
  power : u.power = s.power := by rfl
  pending : u.pending = s.pending := by rfl
  record : m.record = false → u.nv = s.nv := by exact fun _ => rfl
  schedule : m.schedule = false → u.clock.schedule = s.clock.schedule := by exact fun _ => rfl
  flags : m.flags = false → ∀ g, raised g s = true → raised g u = true := by exact fun _ _ h => h
  used : m.used = false → u.filters.supply.used = s.filters.supply.used ∧ u.filters.extract.used = s.filters.extract.used := by
    exact fun _ => ⟨rfl, rfl⟩

/-- From one state to the next within an event, before a changed condition of R82 has had its evaluation: every rule but the
one on the cap is kept. -/
structure Loose (m : Scope) (s u : State) : Prop where
  fans : fansRuled s → fansRuled u := by exact id
  claim : claimRuled s → claimRuled u := by exact id
  entries : queueRuled s → queueRuled u := by exact id
  order : orderRuled s → orderRuled u := by exact id
  terms : termsRuled s → termsRuled u := by exact id
  clock : clockRuled s → clockRuled u := by exact id
  counts : termsRuled s → countsRuled s → countsRuled u := by exact fun _ h => h
  sensors : sensorsRuled s → sensorsRuled u := by exact id
  humid : sensorsRuled s → humidRuled s → humidRuled u := by exact fun _ h => h
  peers : peersRuled s → peersRuled u := by exact id
  receiver : receiverRuled s → receiverRuled u := by exact id
  frame : Framed m s u := by exact {}

/-- From one state to the next within an event, the cap formed. -/
structure Moves (m : Scope) (s u : State) : Prop extends Loose m s u where
  cap : capFormed s → capFormed u := by exact capFormed_congr rfl rfl rfl rfl

/-- The rules that hold only at the end of an event, kept from one such end to another. -/
structure Notices (s t : State) : Prop where
  lamp : lampRuled s → lampRuled t := by exact id
  output : told s ∧ preheaterRuled s → told t ∧ preheaterRuled t := by exact id
  stop : claimRuled s ∧ stopRuled s → stopRuled t := by exact fun h => h.2

/-- A whole event, or what follows one. -/
structure Event (m : Scope) (s t : State) : Prop extends Moves m s t, Notices s t

theorem Framed.refl (m : Scope) (s : State) : Framed m s s := {}

theorem Framed.trans {m : Scope} {s u v : State} (a : Framed m s u) (b : Framed m u v) : Framed m s v where
  power := b.power.trans a.power
  pending := b.pending.trans a.pending
  record h := (b.record h).trans (a.record h)
  schedule h := (b.schedule h).trans (a.schedule h)
  flags h g := b.flags h g ∘ a.flags h g
  used h := ⟨(b.used h).1.trans (a.used h).1, (b.used h).2.trans (a.used h).2⟩

theorem Loose.trans {m : Scope} {s u v : State} (a : Loose m s u) (b : Loose m u v) : Loose m s v where
  fans := b.fans ∘ a.fans
  claim := b.claim ∘ a.claim
  entries := b.entries ∘ a.entries
  order := b.order ∘ a.order
  terms := b.terms ∘ a.terms
  clock := b.clock ∘ a.clock
  counts h := b.counts (a.terms h) ∘ a.counts h
  sensors := b.sensors ∘ a.sensors
  humid h := b.humid (a.sensors h) ∘ a.humid h
  peers := b.peers ∘ a.peers
  receiver := b.receiver ∘ a.receiver
  frame := a.frame.trans b.frame

theorem Moves.refl (m : Scope) (s : State) : Moves m s s := {}

theorem Moves.trans {m : Scope} {s u v : State} (a : Moves m s u) (b : Moves m u v) : Moves m s v :=
  { a.toLoose.trans b.toLoose with cap := b.cap ∘ a.cap }

theorem Event.refl (m : Scope) (s : State) : Event m s s := {}

theorem Event.trans {m : Scope} {s t v : State} (a : Event m s t) (b : Event m t v) : Event m s v :=
  { a.toMoves.trans b.toMoves with
    lamp := b.lamp ∘ a.lamp
    output := b.output ∘ a.output
    stop := fun h => b.stop ⟨a.claim h.1, a.stop h⟩ }

/-- Moves of states in turn, each by a step of the same kind. -/
theorem Moves.foldl {α : Type} {m : Scope} (f : State → α → State) (h : ∀ s a, Moves m s (f s a)) (l : List α) (s : State) :
    Moves m s (l.foldl f s) := by
  induction l generalizing s with
  | nil => exact .refl m s
  | cons a l ih => exact (h s a).trans (ih _)

theorem Event.foldl {α : Type} {m : Scope} (f : State → α → State) (h : ∀ s a, Event m s (f s a)) (l : List α) (s : State) :
    Event m s (l.foldl f s) := by
  induction l generalizing s with
  | nil => exact .refl m s
  | cons a l ih => exact (h s a).trans (ih _)

/-! ### Fields that no rule of Loose reads -/

/-- Only the outgoing set, the own place, the mode record, the frost guard, the filter unit, the indicator and the flags have
moved. -/
structure Free (m : Scope) (s u : State) : Prop extends Framed m s u where
  line : u.line = s.line := by rfl
  peers : u.peers = s.peers := by rfl
  join : u.join = s.join := by rfl
  plan : u.plan = s.plan := by rfl
  supplyFan : u.supplyFan = s.supplyFan := by rfl
  extractFan : u.extractFan = s.extractFan := by rfl
  stack : u.stack = s.stack := by rfl
  queue : u.queue = s.queue := by rfl
  humid : u.humid = s.humid := by rfl
  clock : u.clock = s.clock := by rfl
  sensors : u.sensors = s.sensors := by rfl
  panel : u.panel = s.panel := by rfl

theorem Free.refl (m : Scope) (s : State) : Free m s s := {}

theorem Free.trans {m : Scope} {s u v : State} (a : Free m s u) (b : Free m u v) : Free m s v :=
  { a.toFramed.trans b.toFramed with
    line := b.line.trans a.line
    peers := b.peers.trans a.peers
    join := b.join.trans a.join
    plan := b.plan.trans a.plan
    supplyFan := b.supplyFan.trans a.supplyFan
    extractFan := b.extractFan.trans a.extractFan
    stack := b.stack.trans a.stack
    queue := b.queue.trans a.queue
    humid := b.humid.trans a.humid
    clock := b.clock.trans a.clock
    sensors := b.sensors.trans a.sensors
    panel := b.panel.trans a.panel }

theorem Free.moves {m : Scope} {s u : State} (h : Free m s u) : Moves m s u where
  fans := by simp [fansRuled, h.supplyFan, h.extractFan]
  claim := by simp [claimRuled, h.stack, h.plan, h.join]
  entries := by simp [queueRuled, h.queue]
  order := by simp [orderRuled, h.queue]
  terms := by simp [termsRuled, h.join]
  clock := by simp [clockRuled, h.clock]
  counts _ := by simp [countsRuled, h.line]
  sensors := by simp [sensorsRuled, h.sensors]
  humid _ := by simp [humidRuled, h.humid]
  peers := by simp [peersRuled, h.peers]
  receiver := by simp [receiverRuled, h.line]
  frame := h.toFramed
  cap := capFormed_congr h.join h.line h.peers h.stack

/-! ### Flags and used counts -/

theorem raise_free {m : Scope} (f : EventFlag) (s : State) : Free m s (raise f s) where
  flags _ g := raise_keeps f g s

theorem raiseIf_free {m : Scope} (c : Bool) (f : EventFlag) (s : State) : Free m s (raiseIf c f s) := by
  unfold raiseIf
  split
  · exact raise_free f s
  · exact .refl m s

/-! ### The end of an event -/

theorem composeOnce_flags (s : State) (g : EventFlag) : raised g (composeOnce s) = raised g s := by simp [raised]

theorem compose_framed {m : Scope} (s : State) : Framed m s (compose s) where
  power := by simp
  pending := by simp
  record _ := by simp
  schedule _ := by simp
  flags _ g := compose_keeps g s
  used _ := by simp

theorem evaluate_framed {m : Scope} (s : State) : Framed m s (evaluate s) where
  power := by simp
  pending := by simp
  record _ := by simp
  schedule _ := by simp
  flags _ g := evaluate_keeps g s
  used _ := by simp

/-- An evaluation keeps every rule and forms the cap (R84, R87). -/
theorem Loose.evaluate {m : Scope} {s u : State} (h : Loose m s u) : Moves m s (evaluate u) :=
  { h.trans { fans := by simp [fansRuled]
              claim := evaluate_claim
              entries := by simp [queueRuled]
              order := by simp [orderRuled]
              terms := by simp [termsRuled]
              clock := by simp [clockRuled]
              counts := by simp [countsRuled]
              sensors := by simp [sensorsRuled]
              humid := by simp [humidRuled]
              peers := by simp [peersRuled]
              receiver := by simp [receiverRuled]
              frame := evaluate_framed u } with
    cap := fun _ => evaluate_capFormed u }

theorem settle_framed {m : Scope} (s : State) : Framed m s (settle s) where
  power := by simp
  pending := by simp
  record _ := by simp
  schedule _ := by simp
  flags _ g := settle_keeps g s
  used _ := by simp

theorem toIdle_ranges {h : Humid} (hc : h.count ≤ 29 ∧ h.sum ≤ 100 * h.count ∧ h.ring.length ≤ 10 ∧ (∀ a ∈ h.ring, a ≤ 100)) :
    h.toIdle.count ≤ 29 ∧ h.toIdle.sum ≤ 100 * h.toIdle.count ∧ h.toIdle.ring.length ≤ 10 ∧
      (∀ a ∈ h.toIdle.ring, a ≤ 100) ∧ h.toIdle.boostMinutes ≤ 60 ∧ h.toIdle.restMinutes ≤ 30 :=
  ⟨hc.1, hc.2.1, hc.2.2.1, hc.2.2.2, Nat.zero_le _, Nat.zero_le _⟩

theorem settle_humidRuled {s : State} (h : humidRuled s) : humidRuled (settle s) := by
  obtain ⟨hcount, hsum, hlength, hring, hboost, hrest⟩ := h
  by_cases hs : s.frost.stage = .stop
  · simpa [humidRuled, settle_humid_stop hs] using toIdle_ranges ⟨hcount, hsum, hlength, hring⟩
  · simpa [humidRuled, settle_humid hs] using ⟨hcount, hsum, hlength, hring, hboost, hrest⟩

theorem settle_preheaterRuled (s : State) : preheaterRuled (settle s) := by
  intro h
  rw [settle_preheater] at h
  simp only [Bool.and_eq_true, decide_eq_true_eq] at h
  exact ⟨h.1.1, h.1.2, h.2⟩

theorem settle_moves {m : Scope} (s : State) : Moves m s (settle s) where
  fans := settle_fansRuled
  claim h := settle_claim (claimRuled_ready h)
  entries := by simp [queueRuled]
  order := by simp [orderRuled]
  terms := by simp [termsRuled]
  clock := by simp [clockRuled]
  counts := by simp [countsRuled]
  sensors := by simp [sensorsRuled]
  humid _ := settle_humidRuled
  peers := by simp [peersRuled]
  receiver := by simp [receiverRuled]
  frame := settle_framed s
  cap := settle_capFormed

/-- The end of an event sets up what holds at the end of every event. -/
theorem Moves.settle {m : Scope} {s u : State} (h : Moves m s u) : Event m s (settle u) :=
  { h.trans (settle_moves u) with
    lamp := fun _ => settle_lamp u
    output := fun _ => ⟨settle_told u, settle_preheaterRuled u⟩
    stop := fun hs => settle_stopRuled (claimRuled_ready (h.claim hs.1)) }

end Sys2Proof.Machine
end

section
/-! SUPPORT. The starts and the operations of the line, the outgoing set and the frost guard, each as moves that keep the rules. -/

namespace Sys2Proof.Machine

-- One proof after the other, so that the check of the whole text stays within its limit of threads.
set_option Elab.async false

/-! ### Starts (R43, R68, R187) -/

theorem restarted_ruled {f : Fan} (h : f.ruled) : f.restarted.ruled := by
  unfold Fan.ruled at h
  unfold Fan.restarted
  split
  · rename_i hf
    simp only [Bool.or_eq_true, Bool.and_eq_true, decide_eq_true_eq] at hf
    rcases hf with hf | ⟨_, ha⟩
    · simp only [hf] at h
      simp [Fan.ruled, Fan.start, h]
    · simp [Fan.ruled, Fan.start, ha]
  · rename_i hf
    simp only [Bool.or_eq_true, Bool.and_eq_true, decide_eq_true_eq, not_or, not_and] at hf
    have ha : f.attempts < 5 := by
      cases hs : f.state <;> simp only [hs] at h hf <;> simp at hf <;> omega
    simp [Fan.ruled, Fan.start, ha]

theorem followLamp_lampRuled (s : State) : lampRuled (followLamp s) := by
  simp only [lampRuled, followLamp]
  split
  · rename_i h; exact h.symm
  · simp [lampLevel]

theorem followOutputs_preheaterRuled (s : State) : preheaterRuled (followOutputs s) := by
  intro h
  have hp : (followOutputs s).frost = (followPreheater s).frost := by simp [followOutputs]
  rw [hp] at h ⊢
  simp only [followPreheater, Bool.and_eq_true, decide_eq_true_eq] at h
  exact ⟨h.1.1, by simpa using h.1.2, by simpa using h.2⟩

/-- What a restart begins from, before its composition: nothing but the kept fields differs from a power-on start. -/
def restartBase (s : State) : State :=
  { State.reset with
    supplyFan := s.supplyFan.restarted, extractFan := s.extractFan.restarted, filters := s.filters.restarted, nv := s.nv,
    torn := s.torn, clock := { Clock.start with schedule := s.clock.schedule }, events := s.events, pending := s.pending }

theorem restartNow_eq (s : State) :
    restartNow s = followOutputs (composeOnce
      (raiseIf (newlyFailed s.supplyFan s.supplyFan.restarted || newlyFailed s.extractFan s.extractFan.restarted) .fanFailed
        (restartBase s))) := rfl

theorem followOutputs_frost_stage (s : State) : (followOutputs s).frost.stage = s.frost.stage := by
  simp [followOutputs, followPreheater]

theorem followOutputs_used (s : State) : (followOutputs s).filters.supply = s.filters.supply ∧
    (followOutputs s).filters.extract = s.filters.extract := by
  simp [followOutputs, followMarks]

theorem reset_usable : Terms.defaults.usable = true := by decide

theorem restartNow_framed {m : Scope} {s : State} (hp : s.power = .running) : Framed m s (restartNow s) where
  power := by simp [restartNow_eq, restartBase, State.reset, hp]
  pending := by simp [restartNow_eq, restartBase]
  record _ := by simp [restartNow_eq, restartBase]
  schedule _ := by simp [restartNow_eq, restartBase]
  flags _ g h := by
    have hr := raiseIf_keeps
      (newlyFailed s.supplyFan s.supplyFan.restarted || newlyFailed s.extractFan s.extractFan.restarted) .fanFailed g
      (restartBase s) h
    simpa [restartNow_eq, raised] using hr
  used _ := by simp [restartNow_eq, followOutputs_used, restartBase, Filters.restarted]

theorem restartBase_claimReady (s : State) : claimReady (restartBase s) := ⟨Nat.le_refl 0, fun _ => rfl⟩

theorem restartBase_capFormed (s : State) : capFormed (restartBase s) := by
  simp [capFormed, restartBase, State.reset, Stack.start, capFor]

theorem restartNow_stage (s : State) : (restartNow s).frost.stage = .clear := by
  rw [restartNow_eq, followOutputs_frost_stage]
  simp [restartBase, State.reset, Frost.start]

/-- No station is eligible as it starts. -/
theorem restartNow_told (s : State) : told (restartNow s) := by
  simp [told, eligibleNow, ownNumber, restartNow_eq, restartBase, State.reset, OwnPlace.start, Join.start]

/-- A restart keeps every rule (R56, R187). -/
theorem restartNow_moves {m : Scope} {s : State} (hp : s.power = .running) : Moves m s (restartNow s) where
  fans h := by
    simpa [fansRuled, restartNow_eq, restartBase] using ⟨restarted_ruled h.1, restarted_ruled h.2⟩
  claim _ := by
    have h := composeOnce_claim (s := raiseIf (newlyFailed s.supplyFan s.supplyFan.restarted
      || newlyFailed s.extractFan s.extractFan.restarted) .fanFailed (restartBase s))
      (by simpa [claimReady] using restartBase_claimReady s)
    simpa [claimRuled, restartNow_eq] using h
  entries _ := by simp [queueRuled, restartNow_eq, restartBase, State.reset, Queue.start]
  order _ := by simp [orderRuled, restartNow_eq, restartBase, State.reset, Queue.start]
  terms _ := by simp [termsRuled, restartNow_eq, restartBase, State.reset, Join.start, reset_usable]
  clock _ := by simp [clockRuled, restartNow_eq, restartBase, Clock.start]
  counts _ _ := by simp [countsRuled, restartNow_eq, restartBase, State.reset, Line.start]
  sensors _ := by simp [sensorsRuled, restartNow_eq, restartBase, State.reset, Sensors.start, Channel.ruled, Channel.starting]
  humid _ _ := by simp [humidRuled, restartNow_eq, restartBase, State.reset, Humid.start]
  peers _ j := by
    simp [restartNow_eq, restartBase, State.reset, Peers.start, Vector.get, PeerRecord.cleared, PeerRecord.ruled]
  receiver _ := by simp [receiverRuled, restartNow_eq, restartBase, State.reset, Line.start]
  frame := restartNow_framed hp
  cap _ := by
    have h := composeOnce_capFormed (s := raiseIf (newlyFailed s.supplyFan s.supplyFan.restarted
      || newlyFailed s.extractFan s.extractFan.restarted) .fanFailed (restartBase s))
      (capFormed_congr (by simp) (by simp) (by simp) (by simp) (restartBase_capFormed s))
    exact capFormed_congr (by simp [restartNow_eq]) (by simp [restartNow_eq]) (by simp [restartNow_eq])
      (by simp [restartNow_eq]) h

/-- A restart behind other moves of the event sets up what holds at the end of every event. -/
theorem Moves.restart {m : Scope} {s u : State} (h : Moves m s u) (hp : s.power = .running) : Event m s (restartNow u) :=
  { h.trans (restartNow_moves (h.frame.power.trans hp)) with
    lamp := fun _ => followLamp_lampRuled _
    output := fun _ => ⟨restartNow_told u, followOutputs_preheaterRuled _⟩
    stop := fun _ hs => absurd hs (by simp [restartNow_stage]) }

end Sys2Proof.Machine
end

section
/-! SUPPORT. The operations of the line, the outgoing set and the join unit, each as moves that keep the rules. -/

namespace Sys2Proof.Machine

-- One proof after the other, so that the check of the whole text stays within its limit of threads.
set_option Elab.async false

/-! ### The outgoing set and the own place (R16 to R18, R108) -/

theorem requestStatus_free {m : Scope} (s : State) : Free m s (requestStatus s) := by
  unfold requestStatus; split <;> exact {}

theorem requestQuery_free {m : Scope} (s : State) : Free m s (requestQuery s) := by
  unfold requestQuery; split <;> exact {}

theorem requestTerms_free {m : Scope} (s : State) : Free m s (requestTerms s) := by
  unfold requestTerms; split <;> exact {}

theorem answerQuery_free {m : Scope} (s : State) : Free m s (answerQuery s) := by
  unfold answerQuery
  split
  · exact requestTerms_free s
  · exact {}

theorem requestGive_free {m : Scope} (s : State) : Free m s (requestGive s) := by
  unfold requestGive; split <;> exact {}

theorem giveUp_free {m : Scope} (s : State) : Free m s (giveUp s) := by
  unfold giveUp
  split
  · exact {}
  · split
    · exact requestGive_free s
    · split
      · exact Free.trans {} (requestGive_free _)
      · exact .refl m s

theorem entryAppeared_free {m : Scope} (s : State) : Free m s (entryAppeared s) := by
  unfold entryAppeared
  split
  · exact giveUp_free s
  · exact .refl m s

/-! ### The line between changes of its condition (R4, R9, R13) -/

/-- Only what the receiver, the sender and the test run hold has moved, and the receiver has not become ready. -/
structure CalmLine (a b : Line) : Prop where
  condition : b.condition = a.condition := by rfl
  errors : b.errors = a.errors := by rfl
  collisions : b.collisions = a.collisions := by rfl
  tally : b.tally = a.tally := by rfl
  ready : a.receiverReady = false → b.receiverReady = false := by exact id
  slotTime : b.slotTime = a.slotTime ∨ b.slotTime = none := by exact Or.inl rfl

/-- The cap of R82 follows the line condition alone of the line. -/
theorem capFormed_of_condition {s : State} {l : Line} (h : l.condition = s.line.condition) (hs : capFormed s) :
    capFormed { s with line := l } := by
  have hcap : capFor { s with line := l } s.stack.demand = capFor s s.stack.demand := by
    simp [capFor, h, loneShare, baseShare, headroom, peerClaims, heldReports, presenceCount]
  exact Eq.trans hs hcap.symm

theorem CalmLine.moves {m : Scope} {s : State} {l : Line} (h : CalmLine s.line l) : Moves m s { s with line := l } where
  counts _ hs := by
    obtain ⟨herrors, hcollisions, hreceived, hmismatched, hslot⟩ := hs
    refine ⟨by simpa [h.errors] using herrors, by simpa [h.collisions] using hcollisions, by simpa [h.tally] using hreceived,
      by simpa [h.tally] using hmismatched, fun t ht => ?_⟩
    rcases h.slotTime with hsame | hnone
    · exact hslot t (hsame.symm.trans ht)
    · rw [hnone] at ht; cases ht
  receiver hs hc := h.ready (hs (h.condition.symm.trans hc))
  cap := capFormed_of_condition h.condition

theorem busy_moves {m : Scope} (s : State) : Moves m s (busy s) :=
  CalmLine.moves { slotTime := Or.inr rfl }

theorem receiverLost_moves {m : Scope} (s : State) : Moves m s (receiverLost s) :=
  CalmLine.moves (l := { s.line with receiverReady := false, idle := false, slotTime := none })
    { ready := fun _ => rfl, slotTime := Or.inr rfl }

theorem withdrawForDoubt_moves {m : Scope} (s : State) : Moves m s (withdrawForDoubt s) :=
  (CalmLine.moves (s := s) (l := (withdrawForDoubt s).line) {}).trans (Free.moves {})

theorem withdrawAll_moves {m : Scope} (s : State) : Moves m s (withdrawAll s) :=
  (CalmLine.moves (s := s) (l := (withdrawAll s).line) {}).trans (Free.moves {})

theorem requestTest_moves {m : Scope} (s : State) : Moves m s (requestTest s) := by
  unfold requestTest
  split
  · exact Free.moves {}
  · exact CalmLine.moves {}

theorem runSent_moves {m : Scope} (counted : Bool) (s : State) : Moves m s (runSent counted s) := by
  unfold runSent
  split
  · exact .refl m s
  · split
    · exact .refl m s
    · split
      · exact CalmLine.moves {}
      · exact (CalmLine.moves {}).trans (requestTest_moves _)

theorem startRun_moves {m : Scope} (seed : Byte) (count : Nat) (s : State) : Moves m s (startRun seed count s) :=
  (CalmLine.moves {}).trans (requestTest_moves _)

theorem tallyTest_moves {m : Scope} (j : Station) (payload : List Byte) (s : State) : Moves m s (tallyTest j payload s) where
  counts _ h := by
    obtain ⟨herrors, hcollisions, hreceived, hmismatched, hslot⟩ := h
    refine ⟨herrors, hcollisions, Nat.min_le_left _ _, ?_, hslot⟩
    simp only [tallyTest, Tally.take]
    split
    · split
      · exact hmismatched
      · exact Nat.zero_le _
    · exact Nat.min_le_left _ _
  receiver := id
  cap := capFormed_of_condition rfl

theorem loseLine_moves {m : Scope} (s : State) : Moves m s (loseLine s) := by
  unfold loseLine
  split
  · exact .refl m s
  · exact { counts := fun _ h => ⟨h.1, Nat.min_le_left _ _, h.2.2⟩
            cap := fun h => capFormed_congr rfl rfl rfl rfl (capFormed_of_condition
              (l := { s.line with sending := none, collisions := min 255 (s.line.collisions + 1) }) rfl h) }

/-! ### The line condition (R20, R22), each change with its evaluation (R87) -/

theorem setCondition_loose {m : Scope} (c : LineCondition) (s : State) (h : c = .stuck → s.line.receiverReady = false) :
    Loose m s (setCondition c s) where
  receiver _ := h

theorem enterDoubt_moves {m : Scope} (s : State) : Moves m s (enterDoubt s) :=
  ((setCondition_loose .doubt s (by simp)).trans
    ((withdrawForDoubt_moves _).trans (raise_free _ _).moves).toLoose).evaluate

theorem leaveDoubt_moves {m : Scope} (s : State) : Moves m s (leaveDoubt s) :=
  (setCondition_loose .clear s (by simp)).evaluate

theorem enterStuck_moves {m : Scope} (s : State) (h : s.line.receiverReady = false) : Moves m s (enterStuck s) :=
  ((setCondition_loose .stuck s (fun _ => h)).trans ((withdrawAll_moves _).trans (raise_free _ _).moves).toLoose).evaluate

theorem enterMuted_moves {m : Scope} (cause : MutedCause) (s : State) : Moves m s (enterMuted cause s) := by
  unfold enterMuted
  split
  · exact withdrawAll_moves s
  · exact (Loose.trans { receiver := fun _ h => by cases h }
      ((withdrawAll_moves _).trans (raise_free _ _).moves).toLoose).evaluate

theorem errorUp_moves {m : Scope} (s : State) : Moves m s (errorUp s) := by
  have hcount : Moves m s { s with line := { s.line with errors := min 31 (s.line.errors + 1) } } :=
    { counts := fun _ h => ⟨Nat.min_le_left _ _, h.2⟩, cap := capFormed_of_condition rfl }
  simp only [errorUp]
  split
  · exact hcount.trans (enterDoubt_moves _)
  · exact hcount

theorem errorDown_moves {m : Scope} (s : State) : Moves m s (errorDown s) := by
  have hcount : Moves m s { s with line := { s.line with errors := s.line.errors - 1 } } :=
    { counts := fun _ h => ⟨(Nat.sub_le _ _).trans h.1, h.2⟩, cap := capFormed_of_condition rfl }
  simp only [errorDown]
  split
  · exact hcount.trans (leaveDoubt_moves _)
  · exact hcount

theorem heard_moves {m : Scope} (j : Station) (s : State) : Moves m s (heard j s) :=
  (CalmLine.moves (l := { s.line with lastSender := j }) {}).trans ((busy_moves _).trans (errorDown_moves _))

theorem Moves.afterLine {m : Scope} {s u : State} (giveGone : Bool) (h : Moves m s u) (hp : s.power = .running) :
    Event m s (afterLine giveGone u) := by
  unfold Machine.afterLine
  split
  · exact h.restart hp
  · exact h.settle

/-- A frame from the line keeps every rule if its delivery does. -/
theorem takeFrame_event {m : Scope} {s : State} (j : Station) {deliver : State → State}
    (h : ∀ u, Moves m u (deliver u)) (hp : s.power = .running) : Event m s (takeFrame j deliver s) := by
  unfold takeFrame
  split
  · dsimp only
    split
    · exact ((heard_moves j s).trans (enterMuted_moves .duplicate _)).afterLine _ hp
    · exact ((heard_moves j s).trans (h _)).settle
  · exact .refl m s

/-! ### The join unit (R44 to R55) -/

/-- The terms in force and the straps stay; what else the join unit holds has moved. -/
theorem join_moves {m : Scope} {s : State} {j : Join} (hm : j.membership = s.join.membership)
    (hs : j.straps = s.join.straps) (ht : j.terms = s.join.terms) (hk : j.skew = s.join.skew)
    (hu : termsRuled s → termsRuled { s with join := j }) : Moves m s { s with join := j } where
  claim h := ⟨h.1, h.2.1, h.2.2.1, fun hn => h.2.2.2 (hs.symm.trans hn)⟩
  terms := hu
  cap h := by
    have hcap : capFor { s with join := j } s.stack.demand = capFor s s.stack.demand := by
      simp [capFor, hm, ht, hk, loneShare, baseShare, headroom, peerClaims, heldReports, presenceCount]
    exact Eq.trans h hcap.symm

theorem evaluateSkew_moves {m : Scope} (s : State) : Moves m s (evaluateSkew s) := by
  unfold evaluateSkew
  split
  · have hskew : Loose m s { s with join := { s.join with skew := skewNow s } } := {}
    exact (hskew.trans (raiseIf_free _ _ _).moves.toLoose).evaluate
  · exact .refl m s

theorem applyThreshold_moves {m : Scope} (s : State) : Moves m s (applyThreshold s) := by
  unfold applyThreshold
  split
  · exact enterDoubt_moves s
  · exact .refl m s

theorem decodeTerms_usable {p : TermsBytes} {t : Terms} (h : decodeTerms p = some t) : t.usable = true := by
  unfold decodeTerms at h
  split at h
  · rename_i hu
    cases h
    exact hu
  · cases h

theorem heardSet_usable {best : Option BestHeard} {j : Station} {t : Terms} (ht : t.usable = true)
    (hb : ∀ b, best = some b → b.terms.usable = true) : (heardSet best j t).terms.usable = true := by
  unfold heardSet
  split
  · exact ht
  · rename_i b
    have hb := hb b rfl
    (repeat' split) <;> assumption

/-- What the end of LISTEN selects is one of three: the panel set, the defaults or the best heard set (R54). -/
theorem selectTerms_cases (j : Join) :
    j.panelSet = some (selectTerms j).1 ∨ (selectTerms j).1 = Terms.defaults ∨
      ∃ b, j.best = some b ∧ (selectTerms j).1 = b.terms := by
  have hcandidate : ∀ c : Terms × TermsSource, c = (match j.panelSet with
      | some p => (p, .panel)
      | none => (Terms.defaults, .defaults)) → j.panelSet = some c.1 ∨ c.1 = Terms.defaults := by
    rintro c rfl
    cases j.panelSet <;> simp
  unfold selectTerms
  extract_lets candidate override
  have hc := hcandidate candidate rfl
  split
  · tauto
  · cases hb : j.best with
    | none => tauto
    | some b =>
      simp only
      split
      · exact .inr (.inr ⟨b, rfl, rfl⟩)
      · split
        · exact .inr (.inr ⟨b, rfl, rfl⟩)
        · tauto

theorem selectTerms_usable {j : Join} (hp : ∀ t, j.panelSet = some t → t.usable = true)
    (hb : ∀ b, j.best = some b → b.terms.usable = true) : (selectTerms j).1.usable = true := by
  rcases selectTerms_cases j with h | h | ⟨b, hbest, h⟩
  · exact hp _ h
  · rw [h]; exact reset_usable
  · rw [h]; exact hb b hbest

theorem deliverTerms_moves {m : Scope} (j : Station) (p : TermsBytes) (s : State) : Moves m s (deliverTerms j p s) := by
  unfold deliverTerms
  split
  · exact .refl m s
  · rename_i t ht
    split
    · exact .refl m s
    · refine join_moves rfl rfl rfl rfl fun h => ⟨h.1, h.2.1, fun b hb => ?_⟩
      cases hb
      exact heardSet_usable (decodeTerms_usable ht) h.2.2
    · split
      · exact Free.moves {}
      · exact .refl m s

/-- The selected terms come into force; the evaluation that this asks for is yet to come. -/
theorem joinWith_loose {m : Scope} (s : State) : Loose m s (joinWith s) := by
  have hterms : Loose m s { s with
      join := { s.join with membership := .joined, terms := (selectTerms s.join).1, source := (selectTerms s.join).2.1,
                            best := none, listenTicks := 3 }
      out := { s.out with terms := if s.out.terms = some .query then none else s.out.terms } } :=
    { terms := fun h => ⟨selectTerms_usable h.2.1 h.2.2, h.2.1, fun b hb => by cases hb⟩ }
  exact hterms.trans (raiseIf_free _ _ _).moves.toLoose

theorem majority_latch_loose {m : Scope} (x : Straps) (s : State) : Loose m s (latch x s) := by
  have h : Loose m s { s with
      join := { s.join with membership := .listen, samples := [], straps := some x, listenTicks := 0 }
      line := { s.line with receiverOn := true, receiverReady := false, pullUp := x.pullUp, idle := false, slotTime := none }
      peers := { s.peers with roundTimer := some roundTicks }
      sensors := { s.sensors with scanTimer := some scanTicks }
      filters := { s.filters with minuteTimer := some accountingTicks }
      queue := s.queue.toRebuild } :=
    { claim := fun h => ⟨h.1, h.2.1, h.2.2.1, fun hn => by cases hn⟩
      entries := fun _ => List.nodup_nil
      order := fun _ hne => absurd rfl hne
      counts := fun _ h => ⟨h.1, h.2.1, h.2.2.1, h.2.2.2.1, fun t ht => by cases ht⟩
      receiver := fun _ _ => rfl }
  exact h.trans (requestQuery_free _).moves.toLoose

end Sys2Proof.Machine
end

section
/-! SUPPORT. The queue copy: what its operations keep of the one entry for each station (R115) and of the order of age (R116,
R131). -/

namespace Sys2Proof.Machine

-- One proof after the other, so that the check of the whole text stays within its limit of threads.
set_option Elab.async false

/-! ### One entry for each station (R115) -/

/-- No station has two entries. -/
def Queue.single (q : Queue) : Prop := (q.entries.map Entry.station).Nodup

theorem insertEntry_perm (n : Byte) (e : Entry) (l : List Entry) : (insertEntry n e l).Perm (e :: l) := by
  induction l with
  | nil => exact .refl _
  | cons x xs ih =>
    unfold insertEntry
    split
    · exact .refl _
    · exact (ih.cons x).trans (.swap e x xs)

theorem placeEntry_single (n : Byte) (e : Entry) {l : List Entry} (h : (l.map Entry.station).Nodup) :
    ((placeEntry n e l).map Entry.station).Nodup := by
  refine (((insertEntry_perm n e _).map Entry.station).nodup_iff).mpr (List.nodup_cons.mpr ⟨?_, ?_⟩)
  · intro hm
    obtain ⟨x, hx, hs⟩ := List.mem_map.mp hm
    exact withoutStation_ne _ _ x hx hs
  · exact h.sublist (List.Sublist.map _ List.filter_sublist)

theorem orderEntries_perm (n : Byte) (l : List Entry) : (orderEntries n l).Perm l := by
  induction l with
  | nil => exact .refl _
  | cons x xs ih => exact (insertEntry_perm n x _).trans (ih.cons x)

theorem append_single {l : List Entry} {e : Entry} (hl : (l.map Entry.station).Nodup) (he : ∀ x ∈ l, x.station ≠ e.station) :
    ((l ++ [e]).map Entry.station).Nodup := by
  rw [List.map_append]
  refine hl.append (by simp) ?_
  intro j hj hje
  obtain ⟨x, hx, rfl⟩ := List.mem_map.mp hj
  exact he x hx (by simpa using hje)

theorem filter_single {l : List Entry} (p : Entry → Bool) (h : (l.map Entry.station).Nodup) :
    ((l.filter p).map Entry.station).Nodup :=
  h.sublist (List.Sublist.map _ List.filter_sublist)

theorem map_single {l : List Entry} {f : Entry → Entry} (hf : ∀ e, (f e).station = e.station)
    (h : (l.map Entry.station).Nodup) : ((l.map f).map Entry.station).Nodup := by
  have : Entry.station ∘ f = Entry.station := funext hf
  rwa [List.map_map, this]

/-! ### The order of age (R116, R131) -/

/-- Entry a may stand before entry b: it is farther back, or as far back with a number not above. -/
def olderOrSame (n : Byte) (a b : Entry) : Prop :=
  serialDistance n b.serial < serialDistance n a.serial ∨
    (serialDistance n b.serial = serialDistance n a.serial ∧ a.station ≤ b.station)

/-- Every entry less than 240 serials back, oldest first. -/
def agedOrder (n : Byte) (l : List Entry) : Prop :=
  (∀ e ∈ l, serialDistance n e.serial < 240) ∧ l.Pairwise (olderOrSame n)

def Queue.inOrder (q : Queue) : Prop := agedOrder q.n q.entries

theorem olderOrSame.trans {n : Byte} {a b c : Entry} (h1 : olderOrSame n a b) (h2 : olderOrSame n b c) :
    olderOrSame n a c := by
  unfold olderOrSame at *
  rcases h1 with h1 | ⟨h1, k1⟩ <;> rcases h2 with h2 | ⟨h2, k2⟩
  · exact .inl (by omega)
  · exact .inl (by omega)
  · exact .inl (by omega)
  · exact .inr ⟨by omega, k1.trans k2⟩

theorem olderOrSame_of_before {n : Byte} {a b : Entry} (h : entryBefore n a b = true) : olderOrSame n a b := by
  simp only [entryBefore, Bool.or_eq_true, Bool.and_eq_true, decide_eq_true_eq] at h
  rcases h with h | ⟨h, k⟩
  · exact .inl h
  · exact .inr ⟨h.symm, le_of_lt k⟩

theorem olderOrSame_of_not_before {n : Byte} {a b : Entry} (h : ¬ entryBefore n a b = true) : olderOrSame n b a := by
  simp only [entryBefore, Bool.or_eq_true, Bool.and_eq_true, decide_eq_true_eq, not_or, not_and] at h
  obtain ⟨h1, h2⟩ := h
  rcases Nat.lt_or_ge (serialDistance n a.serial) (serialDistance n b.serial) with hlt | hge
  · exact .inl hlt
  · have heq : serialDistance n a.serial = serialDistance n b.serial := by omega
    exact .inr ⟨heq, not_lt.mp (h2 heq)⟩

/-- An insertion by age into an ordered copy leaves it ordered. -/
theorem insertEntry_order {n : Byte} {e : Entry} {l : List Entry} (he : serialDistance n e.serial < 240)
    (h : agedOrder n l) : agedOrder n (insertEntry n e l) := by
  refine ⟨fun x hx => ?_, ?_⟩
  · rcases List.mem_cons.mp ((insertEntry_perm n e l).subset hx) with rfl | hx
    · exact he
    · exact h.1 x hx
  · replace h := h.2
    induction l with
    | nil => simp [insertEntry]
    | cons x xs ih =>
      obtain ⟨hx, hxs⟩ := List.pairwise_cons.mp h
      unfold insertEntry
      split
      · rename_i hb
        have hex := olderOrSame_of_before hb
        refine List.pairwise_cons.mpr ⟨fun y hy => ?_, h⟩
        rcases List.mem_cons.mp hy with rfl | hy
        · exact hex
        · exact hex.trans (hx y hy)
      · rename_i hb
        refine List.pairwise_cons.mpr ⟨fun y hy => ?_, ih hxs⟩
        rcases List.mem_cons.mp ((insertEntry_perm n e xs).subset hy) with rfl | hy
        · exact olderOrSame_of_not_before hb
        · exact hx y hy

theorem filter_order {n : Byte} {l : List Entry} (p : Entry → Bool) (h : agedOrder n l) : agedOrder n (l.filter p) :=
  ⟨fun e he => h.1 e (List.mem_of_mem_filter he), h.2.filter p⟩

/-- An update of the entries that moves neither station nor serial keeps the order. -/
theorem map_order {n : Byte} {l : List Entry} {f : Entry → Entry} (hs : ∀ e, (f e).station = e.station)
    (hv : ∀ e, (f e).serial = e.serial) (h : agedOrder n l) : agedOrder n (l.map f) := by
  refine ⟨fun e he => ?_, ?_⟩
  · obtain ⟨x, hx, rfl⟩ := List.mem_map.mp he
    rw [hv]; exact h.1 x hx
  · rw [List.pairwise_map]
    exact h.2.imp fun {a b} hab => by unfold olderOrSame at *; rwa [hv, hv, hs, hs]

theorem placeEntry_order {n : Byte} {e : Entry} {l : List Entry} (he : serialDistance n e.serial < 240)
    (h : agedOrder n l) : agedOrder n (placeEntry n e l) :=
  insertEntry_order he (filter_order _ h)

theorem orderEntries_order {n : Byte} {l : List Entry} (h : ∀ e ∈ l, serialDistance n e.serial < 240) :
    agedOrder n (orderEntries n l) := by
  induction l with
  | nil => simp [agedOrder, orderEntries]
  | cons x xs ih =>
    exact insertEntry_order (h x (by simp)) (ih fun e he => h e (by simp [he]))

/-- A distance back grows by what N moves on, while it stays below 256. -/
theorem serialDistance_advance {n v x : Byte} (h : serialDistance n x + serialDistance v n < 256) :
    serialDistance v x = serialDistance n x + serialDistance v n := by
  unfold serialDistance at *
  simp only [BitVec.toNat_sub] at *
  omega

/-- N moved on keeps the copy in order: the entries that stay are all as much farther back (R131). -/
theorem agedPast_order {n : Byte} (v : Byte) {l : List Entry} (h : agedOrder n l) : agedOrder v (agedPast n v l) := by
  have hstay : ∀ e ∈ agedPast n v l, serialDistance v e.serial = serialDistance n e.serial + serialDistance v n ∧
      serialDistance n e.serial + serialDistance v n < 240 := fun e he => by
    have hlt : serialDistance n e.serial + serialDistance v n < 240 := by simpa using (List.mem_filter.mp he).2
    exact ⟨serialDistance_advance (by omega), hlt⟩
  refine ⟨fun e he => ?_, ?_⟩
  · obtain ⟨hd, hlt⟩ := hstay e he
    rw [hd]; exact hlt
  · refine List.Pairwise.imp_of_mem (fun {a b} ha hb hab => ?_) (h.2.filter _)
    obtain ⟨hda, _⟩ := hstay a ha
    obtain ⟨hdb, _⟩ := hstay b hb
    unfold olderOrSame at *
    rcases hab with hab | ⟨hab, hle⟩
    · exact .inl (by omega)
    · exact .inr ⟨by omega, hle⟩

/-! ### The operations of the copy -/

/-- What an operation of the copy keeps: one entry for each station, and outside REBUILD the order of age. -/
structure Queue.Keeps (q q' : Queue) : Prop where
  single : q.single → q'.single := by exact id
  order : (q.state ≠ .rebuild → q.inOrder) → q'.state ≠ .rebuild → q'.inOrder := by exact id

theorem Queue.Keeps.trans {q r u : Queue} (a : q.Keeps r) (b : r.Keeps u) : q.Keeps u :=
  ⟨b.single ∘ a.single, fun h => b.order (a.order h)⟩

theorem Queue.keeps_advance (q : Queue) (v : Byte) : q.Keeps (q.advance v) where
  single := filter_single _
  order h hs := agedPast_order v (h hs)

/-- Behind an operation outside REBUILD, the copy becomes UNSURE. -/
theorem Queue.Keeps.doubted {q r : Queue} (h : q.Keeps r) (hs : r.state ≠ .rebuild) : q.Keeps r.doubted where
  single := h.single
  order ho _ := h.order ho hs

theorem Queue.keeps_drop (q : Queue) (j : Station) : q.Keeps (q.drop j) where
  single := filter_single _
  order h hs := filter_order _ (h hs)

theorem Queue.keeps_toRebuild (q : Queue) : q.Keeps q.toRebuild where
  single _ := List.nodup_nil
  order _ hs := absurd rfl hs

/-- An update of entries that moves neither station nor serial. -/
theorem Queue.keeps_map (q : Queue) {f : Entry → Entry} (hs : ∀ e, (f e).station = e.station)
    (hv : ∀ e, (f e).serial = e.serial) : q.Keeps { q with entries := q.entries.map f } where
  single := map_single hs
  order h hr := map_order hs hv (h hr)

theorem Queue.keeps_filter (q : Queue) (p : Entry → Bool) : q.Keeps { q with entries := q.entries.filter p } where
  single := filter_single p
  order h hr := filter_order p (h hr)

theorem Queue.keeps_placeEntry (q : Queue) {e : Entry} (h : serialDistance q.n e.serial < 240) :
    q.Keeps { q with entries := placeEntry q.n e q.entries } where
  single := placeEntry_single _ e
  order ho hr := placeEntry_order h (ho hr)

theorem Queue.keeps_accept (q : Queue) (j : Station) (v : Byte) : q.Keeps (q.accept j v) :=
  (q.keeps_advance (v + 1)).trans
    ((q.advance (v + 1)).keeps_placeEntry (by
      show serialDistance (v + 1#8) v < 240
      rw [serialDistance_succ]; decide))

/-- In REBUILD the copy is not yet in order; only the one entry for each station counts. -/
theorem Queue.Keeps.inRebuild {q r : Queue} (hs : r.state = .rebuild) (h : q.single → r.single) : q.Keeps r :=
  ⟨h, fun _ hn => absurd hs hn⟩

@[simp] theorem Queue.raiseTo_state (q : Queue) (v : Byte) : (q.raiseTo v).state = q.state := by
  unfold Queue.raiseTo; split <;> rfl
@[simp] theorem Queue.raiseTo_entries (q : Queue) (v : Byte) : (q.raiseTo v).entries = q.entries := by
  unfold Queue.raiseTo; split <;> rfl
@[simp] theorem Queue.raisePast_state (q : Queue) (v : Byte) : (q.raisePast v).state = q.state := by
  unfold Queue.raisePast; split <;> simp
@[simp] theorem Queue.raisePast_entries (q : Queue) (v : Byte) : (q.raisePast v).entries = q.entries := by
  unfold Queue.raisePast; split <;> simp

theorem Queue.keeps_collect (q : Queue) (j : Station) (v : Byte) (hs : q.state = .rebuild) : q.Keeps (q.collect j v) :=
  .inRebuild (by simpa [Queue.collect] using hs) fun h => by
    simpa [Queue.single, Queue.collect, withoutStation] using append_single (e := freshEntry j v) (filter_single _ h) (withoutStation_ne j _)

theorem Queue.keeps_takeNear (q : Queue) (t : Terms) (j : Station) (v : Byte) (hs : q.state ≠ .rebuild) :
    q.Keeps (q.takeNear t j v) := by
  have ha := q.keeps_accept j v
  unfold Queue.takeNear
  split
  · split
    · exact ha.doubted hs
    · exact ha
  · exact ha.doubted hs
  · exact {}
  · exact {}

theorem Queue.keeps_give (q : Queue) (j : Station) (v : Byte) : q.Keeps (q.give j v) := by
  unfold Queue.give
  split
  · exact q.keeps_drop j
  · rename_i hs
    split
    · exact {}
    · split
      · exact q.keeps_drop j
      · exact (q.keeps_drop j).doubted hs

theorem Queue.keeps_reportN (q : Queue) (t : Terms) (r : Report) (hs : q.state ≠ .rebuild) : q.Keeps (q.reportN t r) := by
  unfold Queue.reportN
  split
  · dsimp only
    split
    · exact {}
    · split
      · exact (q.keeps_advance _).doubted hs
      · exact Queue.Keeps.doubted {} hs
  · exact {}

theorem Queue.reportN_state (q : Queue) (t : Terms) (r : Report) (hs : q.state ≠ .rebuild) :
    (q.reportN t r).state ≠ .rebuild := by
  unfold Queue.reportN Queue.doubted
  dsimp only
  (repeat' split) <;> simp [hs]

theorem Queue.keeps_place (q : Queue) (t : Terms) (e : Entry) (hs : q.state ≠ .rebuild) : q.Keeps (q.place t e) := by
  unfold Queue.place
  extract_lets q1
  have h1 : q.Keeps q1 ∧ q1.state ≠ .rebuild := by
    unfold q1
    split
    · exact ⟨q.keeps_advance _, hs⟩
    · exact ⟨{}, hs⟩
  split
  · exact (h1.1.trans (q1.keeps_drop _)).doubted h1.2
  · exact (h1.1.trans (q1.keeps_placeEntry (by omega))).doubted h1.2

theorem Queue.keeps_reportEntry (q : Queue) (t : Terms) (j : Station) (r : Report) (hs : q.state ≠ .rebuild) :
    q.Keeps (q.reportEntry t j r) := by
  unfold Queue.reportEntry
  split
  · split
    · exact q.keeps_place t _ hs
    · split
      · exact q.keeps_map (fun e => by split <;> rfl) (fun e => by split <;> rfl)
      · exact q.keeps_place t _ hs
  · split
    · exact {}
    · exact (q.keeps_drop j).doubted hs

theorem entryOf_none {q : Queue} {j : Station} (h : entryOf q j = none) : ∀ x ∈ q.entries, x.station ≠ j := by
  simpa [entryOf] using h

theorem Queue.keeps_reportRebuild (q : Queue) (j : Station) (r : Report) (hs : q.state = .rebuild) :
    q.Keeps (q.reportRebuild j r) := by
  unfold Queue.reportRebuild
  extract_lets q1
  have h1 : q1.state = .rebuild ∧ q1.entries = q.entries := by
    unfold q1
    split
    · exact ⟨hs, rfl⟩
    · simp [hs]
  have h2 : q.Keeps q1 := .inRebuild h1.1 fun h => by simpa [Queue.single, h1.2] using h
  split
  · split
    · rename_i hn
      exact .inRebuild (by simpa using h1.1) fun h => by
        simpa [Queue.single] using append_single (h2.single h) (entryOf_none hn)
    · exact .inRebuild (by simpa using h1.1) fun h => by
        simpa [Queue.single] using map_single (f := fun x => if x.station = j then { x with serial := r.entrySerial } else x)
          (fun e => by split <;> rfl) (h2.single h)
  · exact h2.trans (q1.keeps_drop j)

theorem Queue.keeps_report (q : Queue) (t : Terms) (j : Station) (r : Report) : q.Keeps (q.report t j r) := by
  unfold Queue.report
  split
  · exact q.keeps_reportRebuild j r (by assumption)
  · rename_i hs
    exact (q.keeps_reportN t r hs).trans (Queue.keeps_reportEntry _ t j r (q.reportN_state t r hs))

theorem Queue.keeps_depart (q : Queue) (tick : Nat) (j : Station) : q.Keeps (q.depart tick j) := by
  unfold Queue.depart
  split
  · exact q.keeps_drop j
  · exact q.keeps_map (fun e => by split <;> rfl) (fun e => by split <;> rfl)

/-- The end of REBUILD puts the copy in order (R120). -/
theorem Queue.keeps_endRebuild (q : Queue) : q.Keeps q.endRebuild where
  single h := by
    refine map_single (fun _ => rfl) ?_
    exact ((orderEntries_perm _ _).map Entry.station).nodup_iff.mpr (filter_single _ h)
  order _ _ := map_order (fun _ => rfl) (fun _ => rfl)
    (orderEntries_order fun e he => of_decide_eq_true (List.mem_filter.mp he).2)

theorem Queue.keeps_endConfirm (q : Queue) (h : q.state ≠ .rebuild) : q.Keeps q.endConfirm where
  order ho _ := ho h

theorem Queue.keeps_countDown (q : Queue) : q.Keeps q.countDown := by
  unfold Queue.countDown
  split
  · split
    · exact {}
    · split
      · exact q.keeps_endRebuild
      · exact {}
  · rename_i hs
    split
    · exact q.keeps_endConfirm (by simp [hs])
    · exact {}
  · exact {}

end Sys2Proof.Machine
end

section
/-! SUPPORT. The operations of the queue copy, the peer table, the clock, the sensors, the humidity monitor, the fans, the frost
guard and the filter unit, each as moves that keep the rules. -/

namespace Sys2Proof.Machine

-- One proof after the other, so that the check of the whole text stays within its limit of threads.
set_option Elab.async false

/-! ### The queue copy (Chapter 7) -/

theorem Queue.Keeps.moves {m : Scope} {s : State} {q : Queue} (h : s.queue.Keeps q) : Moves m s { s with queue := q } where
  entries := h.single
  order := h.order

theorem lockout_moves {m : Scope} (s : State) : Moves m s (lockout s) := by
  unfold lockout
  extract_lets _ s1 _ _ s2
  have h1 : Free m s s1 := by
    unfold s1
    split
    · exact Free.trans {} (requestGive_free _)
    · exact .refl m s
  have h2 : Free m s1 s2 := by unfold s2; split <;> exact {}
  exact (h1.trans h2).moves.trans ((Queue.Keeps.moves s2.queue.keeps_toRebuild).trans (raise_free _ _).moves)

theorem queueTake_moves {m : Scope} (j : Station) (v : Byte) (s : State) : Moves m s (queueTake j v s) := by
  unfold queueTake
  split
  · exact (s.queue.keeps_collect j v (by assumption)).moves
  · split
    · exact lockout_moves s
    · exact (s.queue.keeps_takeNear s.join.terms j v (by assumption)).moves

theorem queueGive_moves {m : Scope} (j : Station) (v : Byte) (s : State) : Moves m s (queueGive j v s) :=
  (s.queue.keeps_give j v).moves

theorem queueReport_moves {m : Scope} (j : Station) (r : Report) (s : State) : Moves m s (queueReport j r s) :=
  (s.queue.keeps_report s.join.terms j r).moves

theorem queueTick_moves {m : Scope} (tick : Nat) (s : State) : Moves m s (queueTick tick s) :=
  ((s.queue.keeps_filter _).trans (s.queue.dropShadows tick).keeps_countDown).moves

theorem countHolds_moves {m : Scope} (s : State) : Moves m s (countHolds s) :=
  (s.queue.keeps_map (fun e => by split <;> rfl) (fun e => by split <;> rfl)).moves

theorem expireHold_moves {m : Scope} (j : Station) (s : State) : Moves m s (expireHold j s) := by
  unfold expireHold
  extract_lets s1
  have h1 : Moves m s s1 := (s.queue.keeps_drop j).moves
  split
  · exact h1.trans ((raise_free _ _).moves.trans (Free.moves {}))
  · exact h1

theorem expireOverdue_moves {m : Scope} (s : State) : Moves m s (expireOverdue s) :=
  .foldl (fun t j => expireHold j t) (fun t j => expireHold_moves j t) _ s

/-! ### Peer records (R34 to R38) -/

theorem records_set_get (v : Vector PeerRecord 16) (j k : Station) (r : PeerRecord) :
    (v.set j r).get k = if k = j then r else v.get k := by
  simp only [Vector.get_eq_getElem, Vector.getElem_set, Fin.ext_iff, eq_comm]

/-- One record put in place; the evaluation that this asks for is yet to come. -/
theorem setRecord_loose {m : Scope} (s : State) (j : Station) {r : PeerRecord} (h : r.ruled) :
    Loose m s { s with peers := { s.peers with records := s.peers.records.set j r } } where
  peers hs k := by
    show ((s.peers.records.set j r).get k).ruled
    rw [records_set_get]
    split
    · exact h
    · exact hs k

theorem cleared_ruled : PeerRecord.cleared.ruled := ⟨rfl, rfl⟩

theorem formSource_moves {m : Scope} (s : State) : Moves m s (formSource s) := {}

theorem depart_moves {m : Scope} (j : Station) (s : State) : Moves m s (depart j s) := by
  have h := (setRecord_loose (m := m) s j cleared_ruled).trans
    (Queue.Keeps.moves (m := m) (s := { s with peers := { s.peers with records := s.peers.records.set j .cleared } })
      (s.queue.keeps_depart s.peers.ticks j)).toLoose
  exact h.evaluate.trans (formSource_moves _)

theorem depart_peers (j : Station) (s : State) :
    (depart j s).peers = { s.peers with records := s.peers.records.set j .cleared } := by
  simp [depart, formSource]

/-- After departures told one after the other their records are cleared and all others as they were. -/
theorem departs_record (l : List Station) (s : State) (k : Station) :
    (l.foldl (fun t j => depart j t) s).peers.records.get k = if k ∈ l then .cleared else s.peers.records.get k := by
  induction l generalizing s with
  | nil => simp
  | cons j l ih =>
    rw [List.foldl_cons, ih, depart_peers]
    simp only [records_set_get, List.mem_cons]
    split <;> split <;> simp_all

theorem mem_allStations (j : Station) : j ∈ allStations := by revert j; decide

theorem mem_departing {s : State} {j : Station} :
    j ∈ departing s ↔ (s.peers.records.get j).held = true ∧ 3 ≤ (s.peers.records.get j).age := by
  simp [departing, mem_allStations]

/-- A ruled record one tick older is ruled, or comes to age 3. -/
theorem aged_ruled {r : PeerRecord} (h : r.ruled) (hage : ¬ (r.aged.held = true ∧ 3 ≤ r.aged.age)) : r.aged.ruled := by
  unfold PeerRecord.ruled at h
  cases hp : r.presence <;> rw [hp] at h <;> obtain ⟨ha, hf⟩ := h
  · simp [PeerRecord.aged, PeerRecord.held, PeerRecord.ruled, hp, ha, hf]
  · by_cases h2 : 2 ≤ r.age + 1
    · have h1 : r.age = 1 := by omega
      simp [PeerRecord.aged, PeerRecord.held, PeerRecord.ruled, hp, h1, hf]
    · have h0 : r.age = 0 := by omega
      simp [PeerRecord.aged, PeerRecord.held, PeerRecord.ruled, hp, h0, hf]
  · simp [PeerRecord.aged, PeerRecord.held, hp, ha] at hage

/-- The state in which the departures of a round tick are told: the report asked for, the records aged. -/
def agedState (s : State) : State :=
  let s1 := { s with peers := { s.peers with roundTimer := some roundTicks, ticks := s.peers.ticks + 1 } }
  let s2 := if s1.join.membership = .joined then requestStatus s1 else s1
  { s2 with peers := { s2.peers with records := s2.peers.records.map PeerRecord.aged } }

theorem peersTick_eq (s : State) :
    peersTick s = (departing (agedState s)).foldl (fun t j => depart j t) (agedState s) := rfl

@[simp] theorem requestStatus_peers (s : State) : (requestStatus s).peers = s.peers := by
  unfold requestStatus; split <;> rfl

theorem agedState_peers (s : State) :
    (agedState s).peers = { s.peers with roundTimer := some roundTicks, ticks := s.peers.ticks + 1,
                                         records := s.peers.records.map PeerRecord.aged } := by
  unfold agedState
  dsimp only
  split <;> simp

theorem agedState_record (s : State) (j : Station) :
    (agedState s).peers.records.get j = (s.peers.records.get j).aged := by
  rw [agedState_peers]
  simp [Vector.get_eq_getElem]

/-- What all the other rules see of the aging is a request for the report. -/
theorem agedState_free {m : Scope} (s : State) : Free m s { agedState s with peers := s.peers } := by
  unfold agedState
  dsimp only
  split
  · unfold requestStatus
    split <;> exact {}
  · exact {}

@[simp] theorem aged_held (r : PeerRecord) : r.aged.held = r.held := by
  unfold PeerRecord.aged
  split
  · rename_i h
    simp only [PeerRecord.held, ne_eq, decide_not, Bool.not_eq_true', decide_eq_false_iff_not] at h ⊢
    split <;> simp [h]
  · rfl

@[simp] theorem aged_fields (r : PeerRecord) : r.aged.fields = r.fields := by unfold PeerRecord.aged; split <;> rfl

theorem presenceCount_aged {s t : State} (h : t.peers.records = s.peers.records.map PeerRecord.aged) :
    presenceCount t = presenceCount s := by
  simp only [presenceCount, h, Vector.toList_map, List.countP_map]
  congr 2
  exact funext aged_held

theorem heldReports_aged {s t : State} (h : t.peers.records = s.peers.records.map PeerRecord.aged) :
    heldReports t = heldReports s := by
  simp only [heldReports, h, Vector.toList_map, List.filterMap_map]
  congr 1
  funext r
  simp

/-- The cap of R82 depends on the records by the presence count and the reports alone. -/
theorem capFormed_of_reports {s t : State} (hj : t.join = s.join) (hl : t.line = s.line) (hst : t.stack = s.stack)
    (hp : presenceCount t = presenceCount s) (hr : heldReports t = heldReports s) (h : capFormed s) : capFormed t := by
  have hcap : capFor t s.stack.demand = capFor s s.stack.demand := by
    simp [capFor, loneShare, baseShare, headroom, peerClaims, hj, hl, hst, hp, hr]
  unfold capFormed
  rw [hst, hcap]
  exact h

theorem peersTick_peersRuled {s : State} (h : peersRuled s) : peersRuled (peersTick s) := by
  intro k
  rw [peersTick_eq, departs_record]
  split
  · exact cleared_ruled
  · rename_i hk
    rw [mem_departing, agedState_record] at hk
    rw [agedState_record]
    exact aged_ruled (h k) hk

theorem peersTick_moves {m : Scope} (s : State) : Moves m s (peersTick s) := by
  have a : Free m s { agedState s with peers := s.peers } := agedState_free s
  have hcap : capFormed s → capFormed (agedState s) :=
    capFormed_of_reports a.join a.line a.stack (presenceCount_aged (by rw [agedState_peers]))
      (heldReports_aged (by rw [agedState_peers]))
  have am := a.moves
  have b : Moves m (agedState s) (peersTick s) := .foldl (fun t j => depart j t) (fun t j => depart_moves j t) _ _
  exact
    { fans := b.fans ∘ am.fans
      claim := b.claim ∘ am.claim
      entries := b.entries ∘ am.entries
      order := b.order ∘ am.order
      terms := b.terms ∘ am.terms
      clock := b.clock ∘ am.clock
      counts := fun h => b.counts (am.terms h) ∘ am.counts h
      sensors := b.sensors ∘ am.sensors
      humid := fun h => b.humid (am.sensors h) ∘ am.humid h
      peers := peersTick_peersRuled
      receiver := b.receiver ∘ am.receiver
      frame := (Framed.trans (u := agedState s) ⟨am.frame.power, am.frame.pending, am.frame.record, am.frame.schedule,
        am.frame.flags, am.frame.used⟩ b.frame)
      cap := b.cap ∘ hcap }

theorem stackTick_moves {m : Scope} (s : State) : Moves m s (stackTick s) :=
  Loose.evaluate (u := { s with stack := { s.stack with backoff := s.stack.backoff - 1 } }) {}

/-! ### The clock (Chapter 10) -/

theorem evaluateMinute_free {m : Scope} (s : State) : Free m s (evaluateMinute s) := by
  unfold evaluateMinute; split <;> exact {}

theorem enterMinute_moves {m : Scope} (s : State) : Moves m s (enterMinute s) := by
  have hclock : Moves m s { s with clock := { s.clock with time := (s.clock.time / 60 + 1) * 60 % weekSeconds, sub := 0 } } :=
    { clock := fun h => ⟨Nat.mod_lt _ (by decide), (by show 0 < 64; decide), h.2.2⟩ }
  exact hclock.trans (evaluateMinute_free _).moves

theorem advanceClock_moves {m : Scope} (s : State) : Moves m s (advanceClock s) := by
  unfold advanceClock
  split
  · rename_i hsub
    exact { clock := fun h => ⟨h.1, (by show s.clock.sub + 1 < 64; omega), h.2.2⟩ }
  · split
    · exact enterMinute_moves s
    · rename_i htime
      exact { clock := fun h => ⟨(by show s.clock.time + 1 < 604800; have := h.1; omega), (by show 0 < 64; decide), h.2.2⟩ }

theorem oscillate_moves {m : Scope} (s : State) : Moves m s (oscillate s) := by
  unfold oscillate
  split
  · exact advanceClock_moves s
  · exact {}

theorem evaluateMinute_clock (s : State) : (evaluateMinute s).clock = s.clock := by
  unfold evaluateMinute; split <;> rfl

theorem advanceClock_slew (s : State) : (advanceClock s).clock.slew = s.clock.slew := by
  unfold advanceClock enterMinute
  (repeat' split) <;> simp [evaluateMinute_clock]

theorem slewOnce_moves {m : Scope} (s : State) : Moves m s (slewOnce s) := by
  unfold slewOnce
  split
  · rename_i hslew
    refine (advanceClock_moves s).trans { clock := fun h => ⟨h.1, h.2.1, ?_, ?_⟩ }
    · show -128 ≤ (advanceClock s).clock.slew - 1
      rw [advanceClock_slew]; omega
    · show (advanceClock s).clock.slew - 1 ≤ 128
      have := h.2.2.2; omega
  · split
    · rename_i hslew
      exact { clock := fun h => ⟨h.1, h.2.1, (by show -128 ≤ s.clock.slew + 1; have := h.2.2.1; omega),
        (by show s.clock.slew + 1 ≤ 128; omega)⟩ }
    · exact .refl m s

theorem setClock_moves {m : Scope} {time sub : Nat} (s : State) (ht : time < 604800) (hs : sub < 64) :
    Moves m s (setClock time sub s) := by
  have h1 : Moves m s { s with clock := { s.clock with time := time, sub := sub, slew := 0, withhold := 0 } } :=
    { clock := fun _ => ⟨ht, hs, by show (-128 : Int) ≤ 0; decide, by show (0 : Int) ≤ 128; decide⟩ }
  unfold setClock
  dsimp only
  split
  · exact h1
  · exact h1.trans (evaluateMinute_free _).moves

theorem clockReport_moves {m : Scope} (j : Station) {r : Report} (s : State) (ht : r.time < 604800) :
    Moves m s (clockReport j r s) := by
  have h1 := formSource_moves (m := m) s
  unfold clockReport
  dsimp only
  split
  · split
    · exact h1
    · split
      · rename_i hd
        simp only [Bool.and_eq_true, decide_eq_true_eq] at hd
        split
        · exact h1.trans { clock := fun h => ⟨h.1, h.2.1, by dsimp only; omega, by dsimp only; omega⟩ }
        · exact h1
      · exact h1.trans (setClock_moves _ ht (by decide))
  · exact h1

/-! ### A STATUS and its consumers (R35) -/

theorem formStates_free {m : Scope} (s : State) : Free m s (formStates s) :=
  Free.trans (u := { s with filters := (formStates s).filters })
    { used := fun _ => by simp [formStates, setFilters, Filter.formed] } (by
      unfold formStates setFilters raiseIf
      split
      · exact raise_free _ _
      · exact {})

theorem filterReport_free {m : Scope} (s : State) : Free m s (filterReport s) := by
  unfold filterReport
  split
  · exact formStates_free s
  · exact .refl m s

theorem decodeStatus_usable {p : StatusBytes} {r : Report} (h : decodeStatus p = some r) : r.usable = true := by
  unfold decodeStatus at h
  split at h
  · dsimp only at h
    split at h
    · rename_i hu
      cases h
      exact hu
    · cases h
  · cases h

theorem usable_time {r : Report} (h : r.usable = true) : r.time < 604800 := by
  simp only [Report.usable, Bool.and_eq_true, decide_eq_true_eq] at h
  omega

theorem recordReport_loose {m : Scope} (j : Station) (r : Report) (s : State) : Loose m s (recordReport j r s) :=
  setRecord_loose s j ⟨Nat.zero_le _, rfl⟩

theorem consumeReport_moves {m : Scope} (j : Station) {r : Report} (s : State) (ht : r.time < 604800) :
    Moves m s (consumeReport j r s) :=
  (((recordReport_loose j r s).trans (queueReport_moves j r _).toLoose).evaluate.trans
    ((clockReport_moves j _ ht).trans (evaluateSkew_moves _))).trans (filterReport_free _).moves

theorem deliverStatus_moves {m : Scope} (j : Station) (p : StatusBytes) (s : State) : Moves m s (deliverStatus j p s) := by
  unfold deliverStatus
  split
  · exact { cap := capFormed_of_reports rfl rfl rfl rfl rfl }
  · rename_i r hr
    exact consumeReport_moves j s (usable_time (decodeStatus_usable hr))

/-! ### Sensor channels and humidity (R139 to R147, R177) -/

theorem goodSample_range {low high v : Int} {c : Conversion} (h : goodSample low high c = some v) : low ≤ v ∧ v ≤ high := by
  unfold goodSample at h
  split at h
  · split at h
    · rename_i hr
      cases h
      simpa using hr
    · cases h
  · cases h
  · cases h

theorem channel_take_ruled {low high : Int} {c : Channel} {x : Option Int} (hx : ∀ v, x = some v → low ≤ v ∧ v ≤ high)
    (h : c.ruled low high) : (c.take x).ruled low high := by
  obtain ⟨hbad, hgood, hreading⟩ := h
  cases hs : c.state <;> rcases x with _ | v <;> rw [hs] at hreading <;> simp only [Channel.take, hs]
  · split
    · exact ⟨Nat.zero_le _, Nat.zero_le _, rfl⟩
    · exact ⟨by dsimp only; omega, Nat.zero_le _, by simpa [hs] using hreading⟩
  · split
    · exact ⟨Nat.zero_le _, Nat.zero_le _, v, rfl, hx v rfl⟩
    · exact ⟨Nat.zero_le _, by dsimp only; omega, by simpa [hs] using hreading⟩
  · split
    · exact ⟨Nat.zero_le _, Nat.zero_le _, rfl⟩
    · exact ⟨by dsimp only; omega, hgood, by simpa [hs] using hreading⟩
  · exact ⟨Nat.zero_le _, hgood, by simpa [hs] using hx v rfl⟩
  · exact ⟨hbad, Nat.zero_le _, by simpa [hs] using hreading⟩
  · split
    · exact ⟨Nat.zero_le _, Nat.zero_le _, v, rfl, hx v rfl⟩
    · exact ⟨hbad, by dsimp only; omega, by simpa [hs] using hreading⟩

theorem sample_moves {m : Scope} (s : State) (tO tS tE tX hE : Conversion) :
    Moves m s { s with sensors := s.sensors.take tO tS tE tX hE } where
  sensors h := by
    obtain ⟨ho, hs, he, hx, hh⟩ := h
    exact ⟨channel_take_ruled (fun _ => goodSample_range) ho, channel_take_ruled (fun _ => goodSample_range) hs,
      channel_take_ruled (fun _ => goodSample_range) he, channel_take_ruled (fun _ => goodSample_range) hx,
      channel_take_ruled (fun _ => goodSample_range) hh⟩

theorem judge_ranges {t : Terms} {h : Humid}
    (hr : h.count ≤ 29 ∧ h.sum ≤ 100 * h.count ∧ h.ring.length ≤ 10 ∧ (∀ a ∈ h.ring, a ≤ 100) ∧ h.boostMinutes ≤ 60 ∧
      h.restMinutes ≤ 30) :
    (h.judge t).count ≤ 29 ∧ (h.judge t).sum ≤ 100 * (h.judge t).count ∧ (h.judge t).ring.length ≤ 10 ∧
      (∀ a ∈ (h.judge t).ring, a ≤ 100) ∧ (h.judge t).boostMinutes ≤ 60 ∧ (h.judge t).restMinutes ≤ 30 := by
  obtain ⟨hcount, hsum, hlength, hring, hboost, hrest⟩ := hr
  unfold Humid.judge Humid.toBoost Humid.toRest Humid.toIdle
  dsimp only
  (repeat' split) <;> refine ⟨hcount, hsum, hlength, hring, ?_, ?_⟩ <;> (try dsimp only) <;> omega

theorem minute_ranges {t : Terms} {h : Humid} {x : Nat} (hx : x ≤ 100)
    (hr : h.count ≤ 29 ∧ h.sum ≤ 100 * h.count ∧ h.ring.length ≤ 10 ∧ (∀ a ∈ h.ring, a ≤ 100) ∧ h.boostMinutes ≤ 60 ∧
      h.restMinutes ≤ 30) :
    (h.minute t x).count ≤ 29 ∧ (h.minute t x).sum ≤ 100 * (h.minute t x).count ∧ (h.minute t x).ring.length ≤ 10 ∧
      (∀ a ∈ (h.minute t x).ring, a ≤ 100) ∧ (h.minute t x).boostMinutes ≤ 60 ∧ (h.minute t x).restMinutes ≤ 30 := by
  obtain ⟨hcount, hsum, hlength, hring, hboost, hrest⟩ := hr
  refine judge_ranges ⟨Nat.zero_le _, Nat.zero_le _, ?_, fun a ha => ?_, hboost, hrest⟩
  · simp only [List.length_take]; omega
  · rcases List.mem_cons.mp (List.mem_of_mem_take ha) with rfl | ha
    · omega
    · exact hring a ha

/-- The sample of a VALID channel is a percentage. -/
theorem humiditySample_le {s : State} {x : Nat} (hs : sensorsRuled s) (h : humiditySample s = some x) : x ≤ 100 := by
  obtain ⟨_, _, _, _, _, _, hh⟩ := hs
  obtain ⟨v, hv, rfl⟩ := Option.map_eq_some_iff.mp h
  obtain ⟨hvalid, hreading⟩ := (Channel.value_eq_some_iff _ _).mp hv
  rw [hvalid] at hh
  obtain ⟨w, hw, _, _⟩ := hh
  rw [hreading] at hw
  cases hw
  omega

theorem humidMinute_moves {m : Scope} {s : State} {x : Nat} (hx : humiditySample s = some x) :
    Moves m s { s with humid := s.humid.minute s.join.terms x } where
  humid hs := minute_ranges (humiditySample_le hs hx)

theorem humidScan_moves {m : Scope} (s : State) : Moves m s (humidScan s) := by
  unfold humidScan
  split
  · rename_i x hx
    refine { humid := fun hs h => ?_ }
    have hle := humiditySample_le hs hx
    show humidRuled { s with humid := s.humid.sample s.join.terms x }
    unfold humidRuled Humid.sample
    dsimp only
    split
    · exact minute_ranges hle h
    · obtain ⟨hcount, hsum, hrest⟩ := h
      exact ⟨by dsimp only; omega, by dsimp only; omega, hrest⟩
  · split
    · exact { humid := fun _ h => ⟨Nat.zero_le _, Nat.zero_le _, Nat.zero_le _, (fun _ ha => by cases ha), Nat.zero_le _,
        Nat.zero_le _⟩ }
    · exact { humid := fun _ h => ⟨Nat.zero_le _, Nat.zero_le _, h.2.2⟩ }

theorem toIdle_moves {m : Scope} (s : State) : Moves m s { s with humid := s.humid.toIdle } where
  humid _ h := toIdle_ranges ⟨h.1, h.2.1, h.2.2.1, h.2.2.2.1⟩

theorem toRest_moves {m : Scope} (s : State) : Moves m s { s with humid := s.humid.toRest } where
  humid _ h := ⟨h.1, h.2.1, h.2.2.1, h.2.2.2.1, Nat.zero_le _, Nat.zero_le _⟩

/-! ### Fans (Chapter 4) -/

theorem setFan_moves {m : Scope} {s : State} {d : Side} {f : Fan} (h : (fanOf s d).ruled → f.ruled) :
    Moves m s (setFan s d f) := by
  cases d
  · exact { fans := fun hs => ⟨h hs.1, hs.2⟩ }
  · exact { fans := fun hs => ⟨hs.1, h hs.2⟩ }

/-! ### The frost guard (Chapter 6) -/

theorem reduceEligible_free {m : Scope} (s : State) : Free m s (reduceEligible s) := by
  unfold reduceEligible
  split
  · exact {}
  · exact giveUp_free s

theorem toBlind_free {m : Scope} (s : State) : Free m s (toBlind s) := Free.trans {} (giveUp_free _)

theorem stageAtScan_free {m : Scope} (s : State) : Free m s (stageAtScan s) := by
  unfold stageAtScan watchToReduce endBlind
  dsimp only
  (repeat' split) <;> first | exact Free.trans {} (reduceEligible_free _) | exact {}

theorem frostScan_free {m : Scope} (s : State) : Free m s (frostScan s) := by
  unfold frostScan
  split
  · dsimp only
    split
    · exact Free.trans {} (toBlind_free _)
    · exact Free.trans {} (stageAtScan_free _)
  · exact .refl m s

theorem frostStepTimer_free {m : Scope} (s : State) : Free m s (frostStepTimer s) := by
  unfold frostStepTimer
  dsimp only
  split
  · exact Free.trans {} (giveUp_free _)
  · exact {}

theorem endThaw_free {m : Scope} (s : State) : Free m s (endThaw s) := by
  unfold endThaw
  split
  · exact {}
  · split
    · exact toBlind_free s
    · exact {}

theorem toStop_free {m : Scope} (s : State) : Free m s (toStop s) :=
  Free.trans {} ((giveUp_free _).trans (raise_free _ _))

theorem panelOff_free {m : Scope} (s : State) : Free m s (panelOff s) := by
  unfold panelOff
  split
  · exact .refl m s
  · exact Free.trans {} (giveUp_free _)

/-! ### The filter unit (Chapter 9) -/

theorem setFilters_free {m : Scope} (s : State) (f : Filters)
    (hu : m.used = false → f.supply.used = s.filters.supply.used ∧ f.extract.used = s.filters.extract.used) :
    Free m s (setFilters s f) :=
  Free.trans { used := hu } (raiseIf_free _ _ _)

theorem remind_free {m : Scope} (s : State) : Free m s (remind s) := setFilters_free s _ fun _ => ⟨rfl, rfl⟩

theorem requestSave_free {m : Scope} (s : State) : Free m s (requestSave s) := by
  unfold requestSave; split <;> exact {}

theorem restartTrim_free {m : Scope} (s : State) : Free m s (restartTrim s) := {}

theorem refloorTrim_free {m : Scope} (s : State) : Free m s (refloorTrim s) := by
  unfold refloorTrim; split <;> exact {}

theorem trimScan_free {m : Scope} (s : State) : Free m s (trimScan s) := by
  unfold trimScan; split <;> exact {}

theorem endPeriod_free {m : Scope} (s : State) : Free m s (endPeriod s) := {}

theorem closeHours_free {m : Scope} (s : State) : Free m s (closeHours s) :=
  Free.trans {} ((formStates_free _).trans ((remind_free _).trans (requestSave_free _)))

theorem accountMinute_free {m : Scope} (hm : m.used = true) (s : State) : Free m s (accountMinute s) := by
  have h2 : ∀ u : State, Free m s u → Free m s (if 14 ≤ s.filters.period then endPeriod u
      else { u with filters := { u.filters with period := s.filters.period + 1 } }) := fun u hu => by
    split
    · exact hu.trans (endPeriod_free u)
    · exact hu.trans {}
  unfold accountMinute
  dsimp only
  refine h2 _ ?_
  split
  · exact Free.trans { used := fun h => nomatch hm.symm.trans h } (closeHours_free _)
  · exact Free.trans { used := fun h => nomatch hm.symm.trans h } (formStates_free _)

theorem setFilter_free {m : Scope} (s : State) (d : Side) (f : Filter) (hu : m.used = false → f.used = (filterOf s d).used) :
    Free m s (setFilter s d f) := by
  cases d
  · exact { used := fun hm => ⟨hu hm, rfl⟩ }
  · exact { used := fun hm => ⟨rfl, hu hm⟩ }

theorem resetFilter_free {m : Scope} (hm : m.used = true) (d : Side) (s : State) : Free m s (resetFilter d s) :=
  (setFilter_free s d _ (fun h => nomatch hm.symm.trans h)).trans ((setFilter_free _ d _ (fun h => nomatch hm.symm.trans h)).trans
    ((restartTrim_free _).trans (requestSave_free _)))

theorem restoreRecord_free {m : Scope} (hm : m.used = true) (s : State) : Free m s (restoreRecord s) := by
  unfold restoreRecord
  split
  · exact Free.trans { used := fun h => nomatch hm.symm.trans h } ((formStates_free _).trans (remind_free _))
  · exact Free.trans { used := fun h => nomatch hm.symm.trans h } ((raise_free _ _).trans ((restartTrim_free _).trans
      ((requestSave_free _).trans ((formStates_free _).trans (remind_free _)))))

/-! ### The end of LISTEN (R47, R54) -/

theorem endListen_moves {m : Scope} (s : State) : Moves m s (endListen s) := by
  have h := ((joinWith_loose (m := m) s).trans ((requestStatus_free _).moves.trans ((applyThreshold_moves _).trans
    ((expireOverdue_moves _).trans (evaluateSkew_moves _)))).toLoose).evaluate
  exact h.trans ((refloorTrim_free _).trans (formStates_free _)).moves

theorem joinTick_moves {m : Scope} (s : State) : Moves m s (joinTick s) := by
  unfold joinTick
  split
  · exact .refl m s
  · split
    · exact endListen_moves s
    · exact join_moves rfl rfl rfl rfl id
  · exact evaluateSkew_moves s

end Sys2Proof.Machine
end

section
/-! SUPPORT. The meaning of every command as an event that keeps the rules and the frame of its scope. -/

namespace Sys2Proof.Machine

-- One proof after the other, so that the check of the whole text stays within its limit of threads.
set_option Elab.async false

/-! ### Events that end without notices -/

/-- Nothing that a notice tells, and nothing that an output follows, has moved. -/
structure Calm (s t : State) : Prop where
  supplyFan : t.supplyFan.state = s.supplyFan.state := by rfl
  extractFan : t.extractFan.state = s.extractFan.state := by rfl
  exhaust : t.sensors.tX.state = s.sensors.tX.state := by rfl
  condition : t.line.condition = s.line.condition := by rfl
  supplyNotice : t.filters.supply.notice = s.filters.supply.notice := by rfl
  extractNotice : t.filters.extract.notice = s.filters.extract.notice := by rfl
  lamp : t.lamp.level = s.lamp.level := by rfl
  told : t.own.eligible = s.own.eligible := by rfl
  eligible : eligibleNow t = eligibleNow s := by rfl
  stage : t.frost.stage = s.frost.stage := by rfl
  preheater : t.frost.preheater = s.frost.preheater := by rfl
  plan : t.plan = s.plan := by rfl
  claim : t.stack.claim = s.stack.claim := by rfl
  humid : t.humid.state = s.humid.state := by rfl

theorem Calm.notices {s t : State} (h : Calm s t) : Notices s t where
  lamp hl := by
    simpa [lampRuled, lampLevel, h.lamp, h.supplyFan, h.extractFan, h.exhaust, h.condition, h.supplyNotice,
      h.extractNotice] using hl
  output ho := by
    simpa [Machine.told, preheaterRuled, h.told, h.eligible, h.stage, h.preheater, h.supplyFan] using ho
  stop hs := by
    simpa [stopRuled, h.stage, h.plan, h.claim, h.humid] using hs.2

theorem Moves.event {m : Scope} {s t : State} (h : Moves m s t) (hc : Calm s t) : Event m s t :=
  { h, hc.notices with }

theorem panelUpdate_event {m : Scope} (s : State) (p : Panel) : Event m s { s with panel := p } :=
  Moves.event {} {}

/-! ### The line (Chapter 1) -/

theorem busy_event {m : Scope} (s : State) : Event m s (busy s) := (busy_moves s).event {}

theorem lineGoesBusy_event {m : Scope} (s : State) : Event m s (lineGoesBusy s) := by
  unfold lineGoesBusy
  split
  · exact busy_event s
  · exact .refl m s

/-- The error count at the threshold lies in its range, for the threshold does (R19, R48). -/
theorem errorThreshold_le {t : Terms} (h : t.usable = true) : t.errorThreshold ≤ 31 := by
  simp only [Terms.usable, Bool.and_eq_true, decide_eq_true_eq] at h
  obtain ⟨⟨⟨_, _, herrors⟩, _⟩, _⟩ := h
  omega

theorem lineFallsIdle_event {m : Scope} (s : State) : Event m s (lineFallsIdle s) := by
  have hslot : ∀ t : Nat, some 0 = some t → t < 128 := fun t ht => by cases ht; decide
  unfold lineFallsIdle
  split
  · dsimp only
    split
    · have hthreshold : Loose m s { s with line := { s.line with
          idle := true, receiverReady := true, slotTime := some 0, errors := s.join.terms.errorThreshold
          condition := .doubt } } :=
        { counts := fun ht h => ⟨errorThreshold_le ht.1, h.2.1, h.2.2.1, h.2.2.2.1, hslot⟩
          receiver := fun _ h => by cases h }
      exact (hthreshold.trans ((withdrawForDoubt_moves _).trans (raise_free _ _).moves).toLoose).evaluate.settle
    · rename_i hstuck
      exact Moves.event
        { counts := fun _ h => ⟨h.1, h.2.1, h.2.2.1, h.2.2.2.1, hslot⟩
          receiver := fun _ h => absurd h hstuck
          cap := capFormed_of_condition rfl } {}
  · exact .refl m s

theorem slotOf_lt (own last : Station) {c : Nat} (h : c < 4) : slotOf own last c < 64 := by
  unfold slotOf; omega

theorem sendingClass_lt (w : Wanted) : w.sendingClass < 4 := by cases w <;> decide

theorem ownSlot_lt {s : State} {n : Nat} (h : ownSlot s = some n) : n < 64 := by
  unfold ownSlot at h
  split at h
  · rename_i w _ _
    cases h
    exact slotOf_lt _ _ (sendingClass_lt w)
  · cases h

theorem decline_free {m : Scope} (w : Wanted) (s : State) : Free m s (decline w s) := by
  cases w <;> exact {}

theorem slotTime_moves {m : Scope} (s : State) {x : Option Nat} (h : ∀ t, x = some t → t < 128) :
    Moves m s { s with line := { s.line with slotTime := x } } where
  counts _ hs := ⟨hs.1, hs.2.1, hs.2.2.1, hs.2.2.2.1, h⟩
  cap := capFormed_of_condition rfl

theorem beginFrame_event {m : Scope} (own : Station) (w : Wanted) (c : Content) (s : State) :
    Event m s (beginFrame own w c s) :=
  Moves.event ((CalmLine.moves (l := (beginFrame own w c s).line) { slotTime := Or.inr rfl }).trans (Free.moves {})) {}

theorem slotStarts_event {m : Scope} (s : State) : Event m s (slotStarts s) := by
  unfold slotStarts
  split
  · split
    · split
      · exact beginFrame_event _ _ _ s
      · refine ((slotTime_moves s fun t ht => ?_).trans (decline_free _ _).moves).settle
        obtain ⟨n, hn, rfl⟩ := Option.map_eq_some_iff.mp ht
        have := ownSlot_lt hn
        omega
    · exact .refl m s
  · exact .refl m s

theorem loseLine_event {m : Scope} (s : State) : Event m s (loseLine s) :=
  (loseLine_moves s).event (by unfold loseLine; split <;> exact {})

theorem stopFrame_moves {m : Scope} (s : State) (o : Outgoing) :
    Moves m s (busy { s with line := { s.line with sending := none }, out := o }) :=
  (CalmLine.moves (s := s) (l := { s.line with sending := none, idle := false, slotTime := none })
    { slotTime := Or.inr rfl }).trans (Free.moves {})

theorem failDriver_event {m : Scope} {s : State} (hp : s.power = .running) : Event m s (failDriver s) := by
  unfold failDriver
  split
  · exact .refl m s
  · exact ((stopFrame_moves s _).trans (enterMuted_moves _ _)).afterLine _ hp

theorem ownGiveSent_event {m : Scope} {s u : State} (own : Station) (v : Byte) (h : Moves m s u) (hp : s.power = .running) :
    Event m s (ownGiveSent own v u) := by
  have hgive : Moves m s (startReTake { queueGive own v u with own := { (queueGive own v u).own with leaving := none } }) :=
    h.trans ((queueGive_moves own v u).trans (Free.moves {}))
  unfold ownGiveSent
  dsimp only
  split
  · exact hgive.restart hp
  · exact hgive.settle

theorem deliverOwn_event {m : Scope} {s u : State} (own : Station) (f : Sending) (h : Moves m s u) (hp : s.power = .running) :
    Event m s (deliverOwn own f u) := by
  cases hc : f.content <;> simp only [deliverOwn, hc]
  case give v => exact ownGiveSent_event own v h hp
  case take v =>
    have hown : Free m (queueTake own v u)
        { queueTake own v u with own := { (queueTake own v u).own with outstanding := false } } := {}
    exact (h.trans ((queueTake_moves own v u).trans (hown.trans (entryAppeared_free _)).moves)).settle
  case status r =>
    have hreport : Moves m u { u with peers := { u.peers with ownReport := some r } } :=
      { cap := capFormed_of_reports rfl rfl rfl rfl rfl }
    exact (h.trans hreport).settle
  case termsQuery =>
    have hquery : Moves m u { u with join := { u.join with querySent := true } } := join_moves rfl rfl rfl rfl id
    exact (h.trans hquery).settle
  case termsSet t => exact h.settle
  case test seed => exact (h.trans ((tallyTest_moves own _ u).trans (runSent_moves _ _))).settle

theorem completeFrame_event {m : Scope} {s : State} (hp : s.power = .running) : Event m s (completeFrame s) := by
  unfold completeFrame
  split
  · exact deliverOwn_event _ _ ((CalmLine.moves (l := { s.line with sending := none }) {}).trans (heard_moves _ _)) hp
  · exact .refl m s

theorem breakFrame_event {m : Scope} (chars : List RxChar) (s : State) : Event m s (breakFrame chars s) := by
  unfold breakFrame
  split
  · exact ((receiverLost_moves s).trans (errorUp_moves _)).settle
  · exact .refl m s

theorem lineSticks_event {m : Scope} {s : State} (hp : s.power = .running) : Event m s (lineSticks s) := by
  unfold lineSticks
  split
  · split
    · exact ((receiverLost_moves s).trans (enterStuck_moves _ rfl)).afterLine _ hp
    · exact (receiverLost_moves s).event {}
  · exact .refl m s

/-! ### Round ticks and the commands of their parts (Chapters 2, 3, 5 and 7) -/

theorem takeRoundTick_event {m : Scope} (s : State) : Event m s (takeRoundTick s) := by
  unfold takeRoundTick
  split
  · exact ((peersTick_moves s).trans ((queueTick_moves _ _).trans ((stackTick_moves _).trans (joinTick_moves _)))).settle
  · exact .refl m s

theorem takeDeparture_event {m : Scope} (j : Station) (s : State) : Event m s (takeDeparture j s) := by
  unfold takeDeparture
  split
  · exact (depart_moves j s).settle
  · exact .refl m s

theorem takeListenEnd_event {m : Scope} (s : State) : Event m s (takeListenEnd s) := by
  unfold takeListenEnd
  split
  · exact (endListen_moves s).settle
  · exact .refl m s

theorem takeRebuildEnd_event {m : Scope} (s : State) : Event m s (takeRebuildEnd s) := by
  unfold takeRebuildEnd
  split
  · exact s.queue.keeps_endRebuild.moves.settle
  · exact .refl m s

theorem takeConfirmEnd_event {m : Scope} (s : State) : Event m s (takeConfirmEnd s) := by
  unfold takeConfirmEnd
  split
  · rename_i h
    simp only [Bool.and_eq_true, decide_eq_true_eq] at h
    exact (s.queue.keeps_endConfirm (by simp [h.1])).moves.settle
  · exact .refl m s

theorem takeShadowRemoval_event {m : Scope} (j : Station) (s : State) : Event m s (takeShadowRemoval j s) := by
  unfold takeShadowRemoval
  split
  · exact (s.queue.keeps_drop j).moves.settle
  · exact .refl m s

theorem takeHoldExpiry_event {m : Scope} (j : Station) (s : State) : Event m s (takeHoldExpiry j s) := by
  unfold takeHoldExpiry
  split
  · exact (expireHold_moves j s).settle
  · exact .refl m s

theorem takeBackoffEnd_event {m : Scope} (s : State) : Event m s (takeBackoffEnd s) := by
  unfold takeBackoffEnd
  split
  · exact (stackTick_moves s).settle
  · exact .refl m s

/-! ### Fans (Chapter 4) -/

theorem endBoost_event {m : Scope} (s : State) : Event m s (endBoost s) := by
  unfold endBoost
  split
  · exact (Free.moves {}).settle
  · exact .refl m s

theorem edge_state (f : Fan) (time : Nat) : (f.edge time).state = f.state := by
  unfold Fan.edge Fan.edge.accept
  cases hs : f.state <;> dsimp only <;> (repeat' split) <;> simp [hs]

/-- A fan whose state stays is no news to anyone. -/
theorem setFan_calm {s : State} {d : Side} {f : Fan} (h : f.state = (fanOf s d).state) : Calm s (setFan s d f) := by
  cases d
  · exact { supplyFan := h }
  · exact { extractFan := h }

theorem tachEdge_event {m : Scope} (d : Side) (time : Nat) (s : State) :
    Event m s (setFan s d ((fanOf s d).edge time)) :=
  (setFan_moves (edge_ruled time)).event (setFan_calm (edge_state _ time))

theorem stallFan_event {m : Scope} {d : Side} {s : State}
    (h : (fanOf s d).state = .starting ∨ (fanOf s d).state = .running) : Event m s (stallFan d s) :=
  ((setFan_moves fun hr => toStalled_ruled hr h).trans (raise_free _ _).moves).settle

theorem endKick_event {m : Scope} (d : Side) (s : State) : Event m s (endKick d s) := by
  unfold endKick
  split
  · rename_i hs
    split
    · exact (setFan_moves fun hr => toRunning_ruled hr hs).settle
    · exact stallFan_event (.inl hs)
  · exact .refl m s

theorem stepLoop_event {m : Scope} (d : Side) (s : State) : Event m s (stepLoop d s) := by
  unfold stepLoop
  split
  · rename_i hs
    have hfan : Event m s (setFan s d (fanOf s d).loopStep) :=
      (setFan_moves fun hr => loopStep_ruled hr hs).event (setFan_calm rfl)
    refine hfan.trans ?_
    cases d
    · exact Moves.event (Free.moves {}) {}
    · exact Moves.event (Free.moves {}) {}
  · exact .refl m s

theorem endStallWindow_event {m : Scope} (d : Side) (s : State) : Event m s (endStallWindow d s) := by
  unfold endStallWindow
  split
  · rename_i h
    simp only [Bool.and_eq_true, decide_eq_true_eq] at h
    exact stallFan_event (.inr h.1)
  · exact .refl m s

theorem endRestartWait_event {m : Scope} (d : Side) (s : State) : Event m s (endRestartWait d s) := by
  unfold endRestartWait
  split
  · rename_i hs
    split
    · rename_i ha
      exact (setFan_moves fun _ => toStarting_ruled ha).settle
    · rename_i ha
      refine ((setFan_moves fun hr => toFailed_ruled ?_).trans (raise_free _ _).moves).settle
      unfold Fan.ruled at hr
      simp only [hs] at hr
      omega
  · exact .refl m s

theorem reachRunningTime_event {m : Scope} (d : Side) (s : State) : Event m s (reachRunningTime d s) := by
  unfold reachRunningTime
  split
  · rename_i hs
    refine (setFan_moves fun hr => ?_).event (setFan_calm rfl)
    unfold Fan.ruled at *
    simp only [hs] at hr ⊢
    exact ⟨hr.1, hr.2.1, hr.2.2.1, by decide⟩
  · exact .refl m s

/-! ### Scans, frost timers, humidity (Chapters 6, 8 and 11) -/

theorem takeScan_event {m : Scope} (tO tS tE tX hE : Conversion) (s : State) : Event m s (takeScan tO tS tE tX hE s) := by
  unfold takeScan
  split
  · exact ((sample_moves s tO tS tE tX hE).trans ((raiseIf_free _ _ _).moves.trans ((frostScan_free _).moves.trans
      ((humidScan_moves _).trans (trimScan_free _).moves)))).settle
  · exact .refl m s

theorem endStep_event {m : Scope} (s : State) : Event m s (endStep s) := by
  unfold endStep
  split
  · exact (frostStepTimer_free s).moves.settle
  · exact .refl m s

theorem endClear_event {m : Scope} (s : State) : Event m s (endClear s) := by
  unfold endClear
  split
  · split
    · exact (Free.moves {}).settle
    · exact (Free.trans {} (giveUp_free _)).moves.settle
    · exact .refl m s
    · exact .refl m s
    · exact .refl m s
  · exact .refl m s

theorem endStop_event {m : Scope} (s : State) : Event m s (endStop s) := by
  unfold endStop
  split
  · exact (toStop_free s).moves.settle
  · exact .refl m s

theorem endThawTimer_event {m : Scope} (s : State) : Event m s (endThawTimer s) := by
  unfold endThawTimer
  split
  · exact (endThaw_free s).moves.settle
  · exact .refl m s

theorem endReTake_event {m : Scope} (s : State) : Event m s (endReTake s) := by
  unfold endReTake
  split
  · exact (Free.moves {}).settle
  · exact .refl m s

theorem takeHumidityMinute_event {m : Scope} (s : State) : Event m s (takeHumidityMinute s) := by
  unfold takeHumidityMinute
  split
  · exact .refl m s
  · rename_i hx
    split
    · exact (humidMinute_moves hx).settle
    · exact .refl m s

theorem endRest_event {m : Scope} (s : State) : Event m s (endRest s) := by
  unfold endRest
  split
  · exact (toIdle_moves s).settle
  · exact .refl m s

theorem endBoostHour_event {m : Scope} (s : State) : Event m s (endBoostHour s) := by
  unfold endBoostHour
  split
  · exact (toRest_moves s).settle
  · exact .refl m s

/-! ### Filters, clock, indicator (Chapters 9 to 11) -/

theorem takeAccountingMinute_event {m : Scope} (hm : m.used = true) (s : State) : Event m s (takeAccountingMinute s) := by
  unfold takeAccountingMinute
  split
  · exact (accountMinute_free hm s).moves.settle
  · exact .refl m s

theorem learn_used (f : Filter) (ratio : Nat) : (f.learn ratio).used = f.used := by
  simp only [Filter.learn]; split <;> rfl

theorem takeReferenceLearnt_event {m : Scope} (d : Side) (s : State) : Event m s (takeReferenceLearnt d s) := by
  unfold takeReferenceLearnt
  dsimp only
  split
  · have hlearn : Free m s (setFilter s d ((filterOf s d).learn (minuteRatio (fanOf s d)))) :=
      setFilter_free s d _ fun _ => learn_used _ _
    refine (hlearn.trans ?_).moves.settle
    cases d
    · exact Free.trans {} (formStates_free _)
    · exact Free.trans {} (formStates_free _)
  · exact .refl m s

theorem takeHourMark_event {m : Scope} (s : State) : Event m s (takeHourMark s) := by
  unfold takeHourMark
  split
  · exact (closeHours_free s).moves.settle
  · exact .refl m s

theorem takeTrimPeriodEnd_event {m : Scope} (s : State) : Event m s (takeTrimPeriodEnd s) := by
  unfold takeTrimPeriodEnd
  split
  · exact (endPeriod_free s).moves.settle
  · exact .refl m s

theorem endWrite_event {m : Scope} (hm : m.record = true) (s : State) : Event m s (endWrite s) := by
  unfold endWrite
  split
  · exact .refl m s
  · exact Moves.event (Free.moves { record := fun h => nomatch hm.symm.trans h }) {}
  · exact Moves.event (Free.moves { record := fun h => nomatch hm.symm.trans h }) {}

theorem sendReply_event {m : Scope} (k : ReplyKind) (data : List Byte) (s : State) : Event m s (sendReply k data s) :=
  panelUpdate_event s _

theorem Moves.settleDone {m : Scope} {s u : State} (h : Moves m s u) : Event m s (done [] (Machine.settle u)) :=
  h.settle.trans (sendReply_event _ _ _)

theorem answerAck_event {m : Scope} (filter : Byte) (s : State) : Event m s (answerAck filter s) := by
  unfold answerAck
  split
  · exact sendReply_event _ _ _
  · rename_i d _
    have hack : Free m s (setFilter s d { filterOf s d with notice := false }) := setFilter_free s d _ fun _ => rfl
    exact hack.moves.settleDone

theorem answerReset_event {m : Scope} (hm : m.used = true) (filter : Byte) (s : State) :
    Event m s (answerReset filter s) := by
  unfold answerReset
  split
  · exact sendReply_event _ _ _
  · exact Moves.settleDone (resetFilter_free hm _ s).moves

theorem takeRestore_event {m : Scope} (hm : m.used = true) (s : State) : Event m s (takeRestore s) := by
  unfold takeRestore
  split
  · refine (restoreRecord_free hm s).moves.settle.trans ?_
    unfold answerDeferred
    split
    · exact .refl m _
    · exact .refl m _
    · exact answerAck_event _ _
    · exact answerReset_event hm _ _
  · exact .refl m s

theorem takeMinuteEntered_event {m : Scope} (s : State) : Event m s (takeMinuteEntered s) := by
  unfold takeMinuteEntered
  split
  · exact (enterMinute_moves s).settle
  · exact .refl m s

theorem toggleBlink_event {m : Scope} (s : State) : Event m s (toggleBlink s) := by
  unfold toggleBlink
  split
  · exact Moves.event (Free.moves {}) {}
  · exact .refl m s

/-! ### The panel port (Chapter 12) -/

/-- A request that reaches the port: discarded, refused, or handed to its owner. -/
theorem panelRequest_event {m : Scope} (code : Byte) (data : List Byte) {owner : State → State} {s : State}
    (h : ∀ u, Event m u (owner u)) : Event m s (panelRequest code data owner s) := by
  unfold panelRequest
  split
  · split
    · exact (panelUpdate_event s _).trans (sendReply_event _ _ _)
    · exact (panelUpdate_event s _).trans (h _)
  · exact .refl m s

theorem takeModeSet_event {m : Scope} (mode minutes : Byte) (s : State) : Event m s (takeModeSet mode minutes s) := by
  unfold takeModeSet
  split
  · refine Moves.settleDone ?_
    split
    · exact (Free.trans {} (panelOff_free _)).moves
    · exact Free.moves {}
  · split
    · exact (Free.moves {}).settleDone
    · exact sendReply_event _ _ _

theorem takeTimeSet_event {m : Scope} (time : BitVec 24) (s : State) : Event m s (takeTimeSet time s) := by
  unfold takeTimeSet
  split
  · exact sendReply_event _ _ _
  · split
    · exact sendReply_event _ _ _
    · exact (setClock_moves s (by omega) (by decide)).settleDone

theorem takeScheduleWrite_event {m : Scope} (hm : m.schedule = true) (index : Byte) (e : EntryBytes) (s : State) :
    Event m s (takeScheduleWrite index e s) := by
  unfold takeScheduleWrite
  split
  · split
    · exact sendReply_event _ _ _
    · have hwrite : ∀ x, Event m s { s with clock := { s.clock with schedule := x } } := fun x =>
        Moves.event { frame := { schedule := fun h => nomatch hm.symm.trans h } } {}
      exact (hwrite _).trans (sendReply_event _ _ _)
  · exact sendReply_event _ _ _

theorem takeScheduleRead_event {m : Scope} (index : Byte) (s : State) : Event m s (takeScheduleRead index s) := by
  unfold takeScheduleRead
  split <;> exact sendReply_event _ _ _

theorem deferOr_event {m : Scope} (r : FilterRequest) {answer : State → State} (s : State)
    (h : ∀ u, Event m u (answer u)) : Event m s (deferOr r answer s) := by
  unfold deferOr
  split
  · exact h s
  · exact panelUpdate_event s _

theorem takeFanClear_event {m : Scope} (fan : Byte) (s : State) : Event m s (takeFanClear fan s) := by
  unfold takeFanClear
  split
  · exact sendReply_event _ _ _
  · split
    · exact (setFan_moves fun _ => by simp [Fan.ruled, Fan.toStopped]).settleDone
    · exact sendReply_event _ _ _

theorem takePeerRead_event {m : Scope} (station : Byte) (s : State) : Event m s (takePeerRead station s) := by
  unfold takePeerRead
  split <;> exact sendReply_event _ _ _

theorem takeTermsSet_event {m : Scope} (p : TermsBytes) (s : State) : Event m s (takeTermsSet p s) := by
  unfold takeTermsSet
  split
  · split
    · exact sendReply_event _ _ _
    · rename_i t ht
      refine Event.trans (Moves.event (join_moves (j := { s.join with panelSet := some t }) rfl rfl rfl rfl fun h => ?_) {})
        (sendReply_event _ _ _)
      refine ⟨h.1, fun u hu => ?_, h.2.2⟩
      cases hu
      exact decodeTerms_usable ht
  · exact sendReply_event _ _ _

theorem takeLineTest_event {m : Scope} (seed count : Byte) (s : State) : Event m s (takeLineTest seed count s) := by
  unfold takeLineTest
  split
  · exact sendReply_event _ _ _
  · split
    · exact sendReply_event _ _ _
    · refine Event.trans ((startRun_moves seed count.toNat s).event ?_) (sendReply_event _ _ _)
      unfold startRun requestTest
      split <;> exact {}

theorem takeEventsClear_event {m : Scope} (hm : m.flags = true) (mask : BitVec 16) (s : State) :
    Event m s (takeEventsClear mask s) := by
  unfold takeEventsClear
  split
  · exact sendReply_event _ _ _
  · have hclear : ∀ x, Event m s { s with events := x } := fun x =>
      Moves.event (Free.moves { flags := fun h => nomatch hm.symm.trans h }) {}
    exact (hclear _).trans (sendReply_event _ _ _)

/-- A give-up is told to the outgoing set and to the own place, and to no one else. -/
theorem giveUp_calm (s : State) : Calm s (giveUp s) where
  supplyFan := by simp
  extractFan := by simp
  exhaust := by simp
  condition := by simp
  supplyNotice := by simp
  extractNotice := by simp
  lamp := by simp
  told := by simp
  eligible := eligibleNow_congr (by simp) (by simp) (by simp)
  stage := by simp
  preheater := by simp
  plan := by simp
  claim := by simp
  humid := by simp

theorem takeRestart_event {m : Scope} (s : State) : Event m s (takeRestart s) := by
  unfold takeRestart
  split
  · exact ((giveUp_free s).moves.event (giveUp_calm s)).trans
      ((panelUpdate_event _ _).trans (sendReply_event _ _ _))
  · exact (panelUpdate_event s _).trans (sendReply_event _ _ _)

theorem endPanelWait_event {m : Scope} {s : State} (hp : s.power = .running) : Event m s (endPanelWait s) := by
  unfold endPanelWait
  split
  · exact (Moves.refl m s).restart hp
  · exact .refl m s

theorem endReply_event {m : Scope} {s : State} (hp : s.power = .running) : Event m s (endReply s) := by
  unfold endReply
  split
  · exact .refl m s
  · exact .refl m s
  · split
    · exact (Moves.refl m s).restart hp
    · exact panelUpdate_event s _

theorem dropPartial_event {m : Scope} (bytes : List Byte) (s : State) : Event m s (dropPartial bytes s) := by
  unfold dropPartial
  split
  · exact panelUpdate_event s _
  · exact .refl m s

theorem answerFormat_event {m : Scope} (bytes : List Byte) (s : State) : Event m s (answerFormat bytes s) := by
  have hhold : Event m s (holdAssembly (assemble bytes) s) := by
    unfold holdAssembly
    split
    · exact .refl m s
    · exact panelUpdate_event s _
    · exact panelUpdate_event s _
  unfold answerFormat
  split
  · split
    · exact .refl m s
    · exact hhold.trans (sendReply_event _ _ _)
  · exact .refl m s

/-! ### The start (R44) -/

theorem takeSample_event {m : Scope} (levels : Byte) (s : State) : Event m s (takeSample levels s) := by
  unfold takeSample
  split
  · split
    · exact (majority_latch_loose _ s).evaluate.settle
    · exact Moves.event (join_moves rfl rfl rfl rfl id) {}
    · exact Moves.event (join_moves rfl rfl rfl rfl id) {}
  · exact .refl m s

/-! ### Every command -/

/-- What a command's scope is (R153, R159, R163, R164, R171, R188). -/
def scopeOf : Instr → Scope
  | .nvWriteEnds => { record := true }
  | .scheduleWrite _ _ => { schedule := true }
  | .eventsClear _ => { flags := true }
  | .accountingMinute => { used := true }
  | .nvRestore => { used := true }
  | .filterReset _ => { used := true }
  | _ => {}

/-- The three commands that change the supply or the reset input (R182). -/
def movesSupply (c : Instr) : Prop := c = .powerOn ∨ c = .resetAsserted ∨ c = .powerLoss

theorem live_event {m : Scope} {s t : State} {f : State → State} (h : s.power = .running → Event m s (f s))
    (ht : live s f = .next t) : Event m s t := by
  by_cases hp : s.power = .running
  · rw [live_running hp] at ht
    cases ht
    exact h hp
  · rw [live_resting hp] at ht
    cases ht
    exact .refl m s

/-- Every command but the three of the supply is an event of its scope, or leaves the station as it is; so it is of any
scope as wide. -/
theorem exec_event {c : Instr} {m : Scope} {s t : State} (hc : ¬ movesSupply c)
    (hrecord : (scopeOf c).record = true → m.record = true) (hschedule : (scopeOf c).schedule = true → m.schedule = true)
    (hflags : (scopeOf c).flags = true → m.flags = true) (hused : (scopeOf c).used = true → m.used = true)
    (ht : exec c s = .next t) : Event m s t := by
  cases c
  case powerOn => exact absurd (.inl rfl) hc
  case resetAsserted => exact absurd (.inr (.inl rfl)) hc
  case powerLoss => exact absurd (.inr (.inr rfl)) hc
  case strapSample => exact live_event (fun _ => takeSample_event _ s) ht
  case lineIdle => exact live_event (fun _ => lineFallsIdle_event s) ht
  case slotBegins => exact live_event (fun _ => slotStarts_event s) ht
  case lostTheLine => exact live_event (fun _ => loseLine_event s) ht
  case driverFault => exact live_event failDriver_event ht
  case ownFrameComplete => exact live_event completeFrame_event ht
  case receiveError => exact live_event (fun _ => breakFrame_event _ s) ht
  case lineStuck => exact live_event lineSticks_event ht
  case statusTaken j p => exact live_event (takeFrame_event j fun u => deliverStatus_moves j p u) ht
  case takeTaken j v => exact live_event (takeFrame_event j fun u => queueTake_moves j v u) ht
  case giveTaken j v => exact live_event (takeFrame_event j fun u => queueGive_moves j v u) ht
  case termsQueryTaken j => exact live_event (takeFrame_event j fun u => (answerQuery_free u).moves) ht
  case termsSetTaken j p => exact live_event (takeFrame_event j fun u => deliverTerms_moves j p u) ht
  case testTaken j p => exact live_event (takeFrame_event j fun u => tallyTest_moves j p.toList u) ht
  case roundTick => exact live_event (fun _ => takeRoundTick_event s) ht
  case peerDeparture j => exact live_event (fun _ => takeDeparture_event j s) ht
  case listenEnd => exact live_event (fun _ => takeListenEnd_event s) ht
  case rebuildEnd => exact live_event (fun _ => takeRebuildEnd_event s) ht
  case confirmEnd => exact live_event (fun _ => takeConfirmEnd_event s) ht
  case shadowRemoval j => exact live_event (fun _ => takeShadowRemoval_event j s) ht
  case holdExpiry j => exact live_event (fun _ => takeHoldExpiry_event j s) ht
  case backoffEnd => exact live_event (fun _ => takeBackoffEnd_event s) ht
  case boostExpires => exact live_event (fun _ => endBoost_event s) ht
  case tachEdge d time => exact live_event (f := fun u => setFan u d ((fanOf u d).edge time)) (fun _ => tachEdge_event d time s) ht
  case kickEnds d => exact live_event (fun _ => endKick_event d s) ht
  case speedLoopStep d => exact live_event (fun _ => stepLoop_event d s) ht
  case stallWindowExpires d => exact live_event (fun _ => endStallWindow_event d s) ht
  case fanRestartWaitEnds d => exact live_event (fun _ => endRestartWait_event d s) ht
  case runningTimeReached d => exact live_event (fun _ => reachRunningTime_event d s) ht
  case scan => exact live_event (fun _ => takeScan_event _ _ _ _ _ s) ht
  case stepTimerExpires => exact live_event (fun _ => endStep_event s) ht
  case clearTimerExpires => exact live_event (fun _ => endClear_event s) ht
  case stopTimerExpires => exact live_event (fun _ => endStop_event s) ht
  case thawTimerExpires => exact live_event (fun _ => endThawTimer_event s) ht
  case reTakeWaitEnds => exact live_event (fun _ => endReTake_event s) ht
  case humidityMinute => exact live_event (fun _ => takeHumidityMinute_event s) ht
  case restEnd => exact live_event (fun _ => endRest_event s) ht
  case boostHourEnd => exact live_event (fun _ => endBoostHour_event s) ht
  case accountingMinute => exact live_event (fun _ => takeAccountingMinute_event (hused rfl) s) ht
  case referenceLearnt d => exact live_event (fun _ => takeReferenceLearnt_event d s) ht
  case hourMark => exact live_event (fun _ => takeHourMark_event s) ht
  case trimPeriodEnd => exact live_event (fun _ => takeTrimPeriodEnd_event s) ht
  case nvWriteEnds => exact live_event (fun _ => endWrite_event (hrecord rfl) s) ht
  case nvRestore => exact live_event (fun _ => takeRestore_event (hused rfl) s) ht
  case minuteEntered => exact live_event (fun _ => takeMinuteEntered_event s) ht
  case slewSecond => exact live_event (f := fun u => settle (slewOnce u)) (fun _ => (slewOnce_moves s).settle) ht
  case blinkToggle => exact live_event (fun _ => toggleBlink_event s) ht
  case panelAssemblyTimeout => exact live_event (fun _ => dropPartial_event _ s) ht
  case badFormat => exact live_event (fun _ => answerFormat_event _ s) ht
  case replySent => exact live_event endReply_event ht
  case statusRead => exact live_event (fun _ => panelRequest_event _ _ fun u => sendReply_event _ _ u) ht
  case modeSet => exact live_event (fun _ => panelRequest_event _ _ fun u => takeModeSet_event _ _ u) ht
  case timeSet => exact live_event (fun _ => panelRequest_event _ _ fun u => takeTimeSet_event _ u) ht
  case scheduleWrite =>
    exact live_event (fun _ => panelRequest_event _ _ fun u => takeScheduleWrite_event (hschedule rfl) _ _ u) ht
  case scheduleRead => exact live_event (fun _ => panelRequest_event _ _ fun u => takeScheduleRead_event _ u) ht
  case filterAck =>
    exact live_event (fun _ => panelRequest_event _ _ fun u => deferOr_event _ u fun v => answerAck_event _ v) ht
  case filterReset =>
    exact live_event
      (fun _ => panelRequest_event _ _ fun u => deferOr_event _ u fun v => answerReset_event (hused rfl) _ v) ht
  case fanClear => exact live_event (fun _ => panelRequest_event _ _ fun u => takeFanClear_event _ u) ht
  case peerRead => exact live_event (fun _ => panelRequest_event _ _ fun u => takePeerRead_event _ u) ht
  case queueRead => exact live_event (fun _ => panelRequest_event _ _ fun u => sendReply_event _ _ u) ht
  case termsSet => exact live_event (fun _ => panelRequest_event _ _ fun u => takeTermsSet_event _ u) ht
  case lineTest => exact live_event (fun _ => panelRequest_event _ _ fun u => takeLineTest_event _ _ u) ht
  case tallyRead => exact live_event (fun _ => panelRequest_event _ _ fun u => sendReply_event _ _ u) ht
  case eventsClear =>
    exact live_event (fun _ => panelRequest_event _ _ fun u => takeEventsClear_event (hflags rfl) _ u) ht
  case restart => exact live_event (fun _ => panelRequest_event _ _ fun u => takeRestart_event u) ht
  case restartWaitExpires => exact live_event endPanelWait_event ht
  case lineBusy => exact live_event (fun _ => lineGoesBusy_event s) ht

end Sys2Proof.Machine
end

section
/-! SUPPORT. An idle step as a chain of events, the induction principle for the kept rules, and the statements O1 to O3 and O55 to
O60. -/

namespace Sys2Proof.Machine

-- One proof after the other, so that the check of the whole text stays within its limit of threads.
set_option Elab.async false

/-! ### Elapsed time (log 1) -/

/-- An event that is taken when it is due, behind other events. -/
theorem Event.due {m : Scope} {s u : State} (h : Event m s u) {due : State → Bool} {event : State → State}
    (hevent : u.power = s.power → Event m u (event u)) : Event m s (whenDue due event u) := by
  unfold whenDue
  split
  · exact h.trans (hevent h.frame.power)
  · exact h

theorem advanceSlots_event {m : Scope} (bits : Nat) (s : State) : Event m s (advanceSlots bits s) :=
  (slotTime_moves s fun t ht => by
    obtain ⟨n, _, rfl⟩ := Option.map_eq_some_iff.mp ht
    exact Nat.mod_lt _ (by decide)).event {}

theorem runLine_event {m : Scope} (s : State) : Event m s (runLine s) :=
  runLine_keeps (P := Event m s) (fun b _ h => h.trans (advanceSlots_event b _)) (fun _ h => h.trans (slotStarts_event _))
    (.refl m s)

/-- A count of hold times moves no place, and so no grant. -/
theorem countHolds_eligible (s : State) : eligibleNow (countHolds s) = eligibleNow s := by
  have hgranted : ∀ j, granted (countHolds s) j = granted s j := fun j => by
    have hk : kEff (countHolds s) = kEff s := rfl
    simp only [granted, hk]
    simp only [countHolds, ← List.map_take, List.any_map]
    congr 2
    funext e
    simp only [Function.comp]
    split <;> rfl
  unfold eligibleNow
  simp only [hgranted]
  rfl

theorem elapse_event {m : Scope} (s : State) : Event m s (elapse s) := by
  unfold elapse
  refine Event.trans (t := { s with
    peers := { s.peers with roundTimer := tickDown s.peers.roundTimer }
    mode := { s.mode with boost := tickDown s.mode.boost }
    supplyFan := s.supplyFan.elapse
    extractFan := s.extractFan.elapse
    frost := s.frost.elapse
    filters := { s.filters with minuteTimer := tickDown s.filters.minuteTimer }
    clock := { s.clock with second := (s.clock.second + 1) % Config.ticksPerSecond }
    sensors := { s.sensors with scanTimer := tickDown s.sensors.scanTimer }
    lamp := { s.lamp with timer := tickDown s.lamp.timer }
    panel := { s.panel with restartWait := tickDown s.panel.restartWait } })
    (Moves.event { cap := capFormed_of_reports rfl rfl rfl rfl rfl } {}) ?_
  exact (countHolds_moves _).event { eligible := countHolds_eligible _ }

theorem oscillate_event {m : Scope} {s : State} (h : minuteDue s = false) : Event m s (oscillate s) := by
  refine (oscillate_moves s).event ?_
  unfold oscillate
  split
  · rename_i hw
    unfold advanceClock
    split
    · exact {}
    · rename_i hsub
      split
      · rename_i hminute
        simp [minuteDue, hw, hminute] at h
        omega
      · exact {}
  · exact {}

theorem runClock_event {m : Scope} (s : State) : Event m s (runClock s) := by
  have hslew : ∀ u, Event m s u →
      Event m s (if u.clock.second = 0 && u.clock.slew ≠ 0 then settle (slewOnce u) else u) := fun u hu => by
    split
    · exact hu.trans (slewOnce_moves u).settle
    · exact hu
  refine hslew _ ?_
  split
  · exact (enterMinute_moves s).settle
  · exact oscillate_event (by simpa using ‹¬ minuteDue s = true›)

theorem runFan_event {m : Scope} (d : Side) (s : State) : Event m s (runFan d s) := by
  unfold runFan
  dsimp only
  refine .due (.due (.due (.due (.due (.refl m s) fun _ => ?kick) fun _ => ?loop) fun _ => ?stall) fun _ => ?wait)
    fun _ => ?minute
  case kick => exact endKick_event d _
  case loop => exact stepLoop_event d _
  case stall => exact endStallWindow_event d _
  case wait => exact endRestartWait_event d _
  case minute => exact reachRunningTime_event d _

theorem runFrost_event {m : Scope} (s : State) : Event m s (runFrost s) := by
  unfold runFrost
  dsimp only
  refine .due (.due (.due (.due (.due (.refl m s) fun _ => ?clear) fun _ => ?stop) fun _ => ?step) fun _ => ?thaw)
    fun _ => ?wait
  case clear => exact endClear_event _
  case stop => exact endStop_event _
  case step => exact endStep_event _
  case thaw => exact endThawTimer_event _
  case wait => exact endReTake_event _

theorem runHolds_event {m : Scope} (s : State) : Event m s (runHolds s) :=
  .foldl (fun t j => takeHoldExpiry j t) (fun t j => takeHoldExpiry_event j t) _ s

/-- An idle step is an event; it ends writes and accounting minutes. -/
theorem passTick_event {m : Scope} {s : State} (hr : m.record = true) (hu : m.used = true) (hp : s.power = .running) :
    Event m s (passTick s) := by
  have h1 : Event m s (runClock (takeRestore (endWrite (elapse (runLine s))))) :=
    (runLine_event s).trans ((elapse_event _).trans ((endWrite_event hr _).trans ((takeRestore_event hu _).trans
      (runClock_event _))))
  unfold passTick
  dsimp only
  refine .due (.due (.due (.trans (.trans (.due (.trans (.trans (.due h1 fun _ => ?boost) (runFan_event _ _))
    (runFan_event _ _)) fun _ => ?round) (runFrost_event _)) (runHolds_event _)) fun _ => ?account) fun _ => ?blink)
    fun hpower => endPanelWait_event (hpower.trans hp)
  case boost => exact endBoost_event _
  case round => exact takeRoundTick_event _
  case account => exact takeAccountingMinute_event hu _
  case blink => exact toggleBlink_event _

/-! ### Every step -/

theorem exec_supply {c : Instr} {s t : State} (hc : movesSupply c) (ht : exec c s = .next t) :
    t = s ∨ ∃ p, t = { powerOnNow s with power := p } := by
  rcases hc with rfl | rfl | rfl
  · cases ht
    exact .inr ⟨.running, rfl⟩
  · have hreset : exec .resetAsserted s = .next (if s.power = .off then s else { powerOnNow s with power := .held }) := rfl
    rw [hreset] at ht
    cases ht
    split
    · exact .inl rfl
    · exact .inr ⟨.held, rfl⟩
  · cases ht
    exact .inr ⟨.off, rfl⟩

/-- A step is an event, or the station starts or is held anew; the queue of commands stands outside every rule. -/
theorem step_event {s t : State} (ht : step s = .next t) :
    ∃ l, Event ⟨true, true, true, true⟩ { s with pending := l } t ∨ ∃ u p, t = { powerOnNow u with power := p } := by
  unfold step at ht
  split at ht
  · rename_i c rest _
    refine ⟨rest, ?_⟩
    by_cases hc : movesSupply c
    · rcases exec_supply hc ht with rfl | ⟨p, rfl⟩
      · exact .inl (.refl _ _)
      · exact .inr ⟨_, p, rfl⟩
    · exact .inl (exec_event hc (fun _ => rfl) (fun _ => rfl) (fun _ => rfl) (fun _ => rfl) ht)
  · refine ⟨s.pending, .inl ?_⟩
    exact live_event (f := passTick) (passTick_event rfl rfl) ht

/-- A rule is kept by every step when every event keeps it, every start sets it up, and it says nothing of the queue of
commands. -/
theorem kept_of_events {P : State → Prop} (hpending : ∀ s l, P s → P { s with pending := l })
    (hevent : ∀ m s t, Event m s t → P s → P t) (hstart : ∀ u p, P { powerOnNow u with power := p }) : Kept P := by
  intro s t hs ht
  obtain ⟨l, h | ⟨u, p, rfl⟩⟩ := step_event ht
  · exact hevent _ _ _ h (hpending s l hs)
  · exact hstart u p

/-! ### The rules after reset and at every start (R43, R182) -/

theorem reset_fansRuled : fansRuled State.reset := by simp [fansRuled, Fan.ruled, State.reset, Fan.start]

theorem reset_claimRuled : claimRuled State.reset := ⟨rfl, Nat.le_refl 0, Nat.le_refl 0, fun _ => rfl⟩

theorem reset_stopRuled : stopRuled State.reset := fun h => by cases h

theorem reset_capFormed : capFormed State.reset := by simp [capFormed, State.reset, Stack.start, capFor]

theorem reset_queueRuled : queueRuled State.reset := List.nodup_nil

theorem reset_orderRuled : orderRuled State.reset := fun h => absurd rfl h

theorem reset_peersRuled : peersRuled State.reset := fun j => by
  simp [State.reset, Peers.start, Vector.get, PeerRecord.cleared, PeerRecord.ruled]

theorem reset_termsRuled : termsRuled State.reset :=
  ⟨reset_usable, nofun, nofun⟩

theorem reset_clockRuled : clockRuled State.reset := by simp [clockRuled, State.reset, Clock.start]

theorem reset_countsRuled : countsRuled State.reset :=
  ⟨by decide, by decide, by decide, by decide, fun _ h => by cases h⟩

theorem reset_sensorsRuled : sensorsRuled State.reset := by
  simp [sensorsRuled, State.reset, Sensors.start, Channel.ruled, Channel.starting]

theorem reset_humidRuled : humidRuled State.reset := by simp [humidRuled, State.reset, Humid.start]

theorem reset_receiverRuled : receiverRuled State.reset := fun _ => rfl

theorem reset_told : told State.reset := rfl

theorem reset_preheaterRuled : preheaterRuled State.reset := fun h => by cases h

theorem reset_lampRuled : lampRuled State.reset := rfl

/-! ### The statements -/

/-- Settles O55: every event keeps the fan rule. -/
theorem stepsKeepTheFanRule : Obligations.StepsKeepTheFanRule :=
  kept_of_events (fun _ _ h => h) (fun _ _ _ h => h.fans) fun _ _ => reset_fansRuled

/-- Settles O56: every event keeps the rule on the claim; the end of each sets up that of STOP and forms the cap. -/
theorem stepsKeepTheClaimAndStopRules : Obligations.StepsKeepTheClaimAndStopRules :=
  ⟨kept_of_events (fun _ _ h => h) (fun _ _ _ h hs => ⟨h.claim hs.1, h.stop hs⟩) fun _ _ => ⟨reset_claimRuled, reset_stopRuled⟩,
    kept_of_events (fun _ _ => capFormed_congr rfl rfl rfl rfl) (fun _ _ _ h => h.cap) fun _ _ =>
      capFormed_congr rfl rfl rfl rfl reset_capFormed⟩

/-- Settles O57: every operation of the copy keeps one entry a station and, outside REBUILD, the order of age. -/
theorem stepsKeepTheQueueRule : Obligations.StepsKeepTheQueueRule :=
  ⟨kept_of_events (fun _ _ h => h) (fun _ _ _ h => h.entries) fun _ _ => reset_queueRuled,
    kept_of_events (fun _ _ h => h) (fun _ _ _ h => h.order) fun _ _ => reset_orderRuled⟩

/-- Settles O58: an event ends with its notices, or moves nothing that the outputs follow. -/
theorem stepsKeepTheOutputRules : Obligations.StepsKeepTheOutputRules :=
  ⟨kept_of_events (fun _ _ h => h) (fun _ _ _ h => h.lamp) fun _ _ => reset_lampRuled,
    kept_of_events (fun _ _ h => h) (fun _ _ _ h => h.output) fun _ _ => ⟨reset_told, reset_preheaterRuled⟩⟩

/-- Settles O59: every event keeps each of the ranges. -/
theorem stepsKeepTheRanges : Obligations.StepsKeepTheRanges :=
  ⟨kept_of_events (fun _ _ h => h) (fun _ _ _ h hs => ⟨h.terms hs.1, h.clock hs.2.1, h.counts hs.1 hs.2.2⟩)
      fun _ _ => ⟨reset_termsRuled, reset_clockRuled, reset_countsRuled⟩,
    kept_of_events (fun _ _ h => h) (fun _ _ _ h hs => ⟨h.sensors hs.1, h.humid hs.1 hs.2⟩)
      fun _ _ => ⟨reset_sensorsRuled, reset_humidRuled⟩,
    kept_of_events (fun _ _ h => h) (fun _ _ _ h => h.peers) fun _ _ => reset_peersRuled,
    kept_of_events (fun _ _ h => h) (fun _ _ _ h => h.receiver) fun _ _ => reset_receiverRuled⟩

/-- Settles O60: each rule at its start values. -/
theorem rulesHoldAtReset : Obligations.RulesHoldAtReset :=
  ⟨reset_fansRuled, reset_told, reset_preheaterRuled, reset_claimRuled, reset_stopRuled, reset_queueRuled, reset_orderRuled,
    reset_lampRuled, reset_clockRuled, reset_termsRuled, reset_countsRuled, reset_sensorsRuled, reset_humidRuled,
    reset_peersRuled, reset_receiverRuled, reset_capFormed⟩

/-- Settles O1: the front of the queue is run on the rest of it. -/
theorem stepRunsTheFrontCommand : Obligations.StepRunsTheFrontCommand := fun _ _ _ => rfl

/-! ### No fault and no refusal -/

theorem exec_answers (c : Instr) (s : State) : Answers (exec c s) := by
  cases c <;> exact ⟨_, rfl⟩

/-- Settles O2: every meaning answers a state, and a step is a meaning or an idle step. -/
theorem everyCommandAnswers : Obligations.EveryCommandAnswers := by
  refine ⟨exec_answers, fun s => ?_⟩
  unfold step
  split
  · exact exec_answers _ _
  · exact ⟨_, rfl⟩

/-! ### The frame of each command -/

theorem scopeOf_record {c : Instr} (h : c ≠ .nvWriteEnds) : (scopeOf c).record = false := by
  cases c <;> first | rfl | exact absurd rfl h

theorem scopeOf_schedule {c : Instr} (h : ∀ i e, c ≠ .scheduleWrite i e) : (scopeOf c).schedule = false := by
  cases c <;> first | rfl | exact absurd rfl (h _ _)

theorem scopeOf_flags {c : Instr} (h : ∀ m, c ≠ .eventsClear m) : (scopeOf c).flags = false := by
  cases c <;> first | rfl | exact absurd rfl (h _)

theorem scopeOf_used {c : Instr} (h1 : c ≠ .accountingMinute) (h2 : c ≠ .nvRestore) (h3 : ∀ b, c ≠ .filterReset b) :
    (scopeOf c).used = false := by
  cases c <;> first | rfl | exact absurd rfl h1 | exact absurd rfl h2 | exact absurd rfl (h3 _)

/-- Settles O3: a command is an event of its scope, and its frame is the scope's. -/
theorem everyCommandsFrame : Obligations.EveryCommandsFrame := by
  intro c s t ht
  by_cases hc : movesSupply c
  · refine ⟨?_, fun h1 h2 h3 => absurd hc (by simp [movesSupply, h1, h2, h3])⟩
    rcases exec_supply hc ht with rfl | ⟨p, rfl⟩ <;> rfl
  · have hframe := (exec_event (m := scopeOf c) hc id id id id ht).frame
    exact ⟨hframe.pending, fun _ _ _ => ⟨hframe.power, fun h => hframe.record (scopeOf_record h),
      fun h => hframe.schedule (scopeOf_schedule h), fun h => hframe.flags (scopeOf_flags h),
      fun h1 h2 h3 => hframe.used (scopeOf_used h1 h2 h3)⟩⟩

end Sys2Proof.Machine
end

section
/-! SUPPORT. The starts and the strap latch (R43, R44, R163, R182): the statements O5 to O7. -/

namespace Sys2Proof.Machine

-- One proof after the other, so that the check of the whole text stays within its limit of threads.
set_option Elab.async false

/-! ### A write cut off (R163) -/

theorem byte_succ_ne (b : Byte) : b + 1 ≠ b := by
  intro h
  have hn := congrArg BitVec.toNat h
  simp only [BitVec.toNat_add] at hn
  have h1 : (1 : Byte).toNat = 1 := rfl
  omega

/-- A torn check byte never agrees. -/
theorem tornByte_ne (agrees : Byte) (n : Nat) : tornByte agrees n ≠ agrees := by
  unfold tornByte
  split
  · rename_i h
    rw [h]
    exact byte_succ_ne agrees
  · assumption

theorem cutWrite_content (s : State) : (cutWrite s).1.content = s.nv.content := by
  unfold cutWrite; split <;> rfl

theorem cutWrite_idle {s : State} (h : s.filters.save = .idle) : cutWrite s = (s.nv, s.torn) := by simp [cutWrite, h]

/-- The record of a write cut off is bad. -/
theorem cutWrite_bad {s : State} (h : s.filters.save ≠ .idle) : (cutWrite s).1.good = false := by
  have hbad : ∀ n, Nv.good { s.nv with check := tornByte (checkByte s.nv.content.bytes) n } = false := fun n => by
    simp [Nv.good, tornByte_ne]
  unfold cutWrite
  split
  · rename_i hi; exact absurd hi h
  · exact hbad _
  · exact hbad _

theorem resting_keeps {s : State} (hp : s.power ≠ .running) (t : State) :
    (.next (if s.power = .running then t else s) : Result) = .next s := by rw [if_neg hp]

/-- A station held by reset or without power takes none of the other commands (R182). -/
theorem exec_resting {c : Instr} {s : State} (hp : s.power ≠ .running) (hc : ¬ movesSupply c) : exec c s = .next s := by
  cases c
  case powerOn => exact absurd (.inl rfl) hc
  case resetAsserted => exact absurd (.inr (.inl rfl)) hc
  case powerLoss => exact absurd (.inr (.inr rfl)) hc
  all_goals exact resting_keeps hp _

/-- Settles O5: the record by the lemmas on a write cut off, the rest of a start by its definition. -/
theorem startsKeepOnlyTheRecord : Obligations.StartsKeepOnlyTheRecord := by
  refine ⟨fun s => ⟨(cutWrite s).1, (cutWrite s).2, rfl, rfl, fun hp => ?_, cutWrite_content s, fun h => ?_, cutWrite_bad⟩,
    fun c s hp h1 h2 h3 => exec_resting hp (by simp [movesSupply, h1, h2, h3])⟩
  · simp only [exec, execResetAsserted, hp, if_false]
    rfl
  · rw [cutWrite_idle h]
    exact ⟨rfl, rfl⟩

/-- Settles O6: each value is the start value of its block. -/
theorem powerOnValues : Obligations.PowerOnValues := by
  have hrecord : ∀ j : Station, State.reset.peers.records.get j = .cleared := fun j => by
    simp [State.reset, Peers.start, Vector.get]
  have hschedule : ∀ i : Fin 8, State.reset.clock.schedule.get i = none := fun i => by
    simp [State.reset, Clock.start, Vector.get]
  have hcount : presenceCount State.reset = 1 := by
    rw [presenceCount_eq_length_filter]
    simp [hrecord, PeerRecord.cleared]
  unfold Obligations.PowerOnValues
  simp only [hrecord, hschedule, hcount]
  simp [State.reset, Line.start, Outgoing.empty, Peers.start, Join.start, ModeRecord.start, Plan.start, Fan.start, Stack.start,
    Frost.start, Queue.start, OwnPlace.start, Humid.start, Clock.start, Sensors.start, Channel.starting, Panel.start]

/-! ### The strap latch (R44, R45, R181) -/

theorem strapLevels_bit (x : StrapInputs) (i : Fin 8) :
    (strapLevels x).getLsbD i = if x.floating.getLsbD i then decide (i.val < 5) else x.levels.getLsbD i := by
  have hfloating : floatingLevels.getLsbD i = decide (i.val < 5) := by revert i; decide
  have hi : i.val < 8 := i.isLt
  simp only [strapLevels, BitVec.getLsbD_or, BitVec.getLsbD_and, BitVec.getLsbD_not, hfloating, hi]
  cases x.floating.getLsbD i <;> cases x.levels.getLsbD i <;> simp

theorem majority_bit (a b c : Byte) (i : Nat) :
    (majority a b c).getLsbD i = twoOfThree (a.getLsbD i) (b.getLsbD i) (c.getLsbD i) := by
  simp [majority, twoOfThree]

theorem strapsOf_number (x : Byte) (i : Fin 4) : (strapsOf x).number.val.testBit i = x.getLsbD i := by
  have hlow := Nat.testBit_mod_two_pow x.toNat 4 i
  rw [decide_eq_true i.isLt, Bool.true_and] at hlow
  exact hlow

theorem strapsOf_fanClass (x : Byte) (i : Fin 2) : (strapsOf x).fanClass.val.testBit i = x.getLsbD (6 + i) := by
  have hlow := Nat.testBit_mod_two_pow (x.toNat / 2 ^ 6) 2 i
  rw [decide_eq_true i.isLt, Bool.true_and, Nat.testBit_div_two_pow, Nat.add_comm] at hlow
  exact hlow

theorem latch_terms {s : State} (x : Straps) (h : s.line.condition = .clear) : (latch x s).out.terms = some .query := by
  simp [latch, requestQuery, permitted, h]

/-- Settles O7: bit by bit through the majority of the three samples; what the latch sets up stands through the end of the
event. -/
theorem thirdStrapSampleLatches : Obligations.ThirdStrapSampleLatches := by
  refine ⟨strapLevels_bit, ?_⟩
  intro s x y z hp hm a b c
  refine ⟨fun h => ?_, fun h => ?_, fun h => ?_⟩
  · show live s (takeSample a) = _
    rw [live_running hp]
    simp [takeSample, hm, h]
  · show live s (takeSample b) = _
    rw [live_running hp]
    simp [takeSample, hm, h]
  · refine ⟨settle (evaluate (latch (strapsOf (majority a b c)) s)), strapsOf (majority a b c), ?_, ?_⟩
    · show live s (takeSample c) = _
      rw [live_running hp]
      simp [takeSample, hm, h]
    · have hq : ∀ u : State, (requestQuery u).join = u.join ∧ (requestQuery u).line = u.line ∧
          (requestQuery u).peers = u.peers ∧ (requestQuery u).sensors = u.sensors ∧ (requestQuery u).filters = u.filters ∧
          (requestQuery u).queue = u.queue ∧ (requestQuery u).mode = u.mode ∧ (requestQuery u).clock = u.clock ∧
          (requestQuery u).nv = u.nv ∧ (requestQuery u).panel = u.panel := fun u => by
        unfold requestQuery; split <;> exact ⟨rfl, rfl, rfl, rfl, rfl, rfl, rfl, rfl, rfl, rfl⟩
      obtain ⟨hj, hl, hpe, hse, hf, hqu, hmo, hc, hnv, hpa⟩ := hq { s with
        join := { s.join with membership := .listen, samples := [], straps := some (strapsOf (majority a b c)), listenTicks := 0 }
        line := { s.line with receiverOn := true, receiverReady := false, pullUp := (strapsOf (majority a b c)).pullUp,
                              idle := false, slotTime := none }
        peers := { s.peers with roundTimer := some roundTicks }
        sensors := { s.sensors with scanTimer := some scanTicks }
        filters := { s.filters with minuteTimer := some accountingTicks }
        queue := s.queue.toRebuild }
      have hterms := latch_terms (s := s) (strapsOf (majority a b c))
      simp only [latch] at hterms ⊢
      simp only [settle_join, settle_line, settle_peers, settle_sensors, settle_filters_minuteTimer, settle_queue,
        settle_out_terms, settle_mode, settle_clock, settle_nv, settle_panel, evaluate_join, evaluate_line, evaluate_peers,
        evaluate_sensors, evaluate_filters, evaluate_queue, evaluate_out, evaluate_mode, evaluate_clock, evaluate_nv,
        evaluate_panel, hj, hl, hpe, hse, hf, hqu, hmo, hc, hnv, hpa]
      refine ⟨trivial, trivial, fun i => ?_, ?_, ?_, fun i => ?_, trivial, trivial, trivial, trivial, rfl, rfl, rfl, rfl, rfl, rfl,
        rfl, rfl, hterms, trivial, trivial, trivial, trivial⟩
      · rw [strapsOf_number, majority_bit]
      · exact majority_bit a b c 4
      · exact majority_bit a b c 5
      · rw [strapsOf_fanClass, majority_bit]

end Sys2Proof.Machine
end

section
/-! SUPPORT. What an evaluation leaves of the backoff, what the end of an event leaves of the own place, and the statements on the
line's levels and conditions: O9, O11, O12 and O16. -/

namespace Sys2Proof.Machine

-- One proof after the other, so that the check of the whole text stays within its limit of threads.
set_option Elab.async false

/-! ### The backoff through evaluations (R84 to R87) -/

theorem checkLimit_of_within {s : State} (h : overLimit s = false) : checkLimit s = s := by simp [checkLimit, h]

/-- The check of R85 that finds the riser over its limit. -/
theorem checkLimit_of_over {s : State} {x : Straps} (h : overLimit s = true) (hx : s.join.straps = some x) :
    raised .stackCut (checkLimit s) = true ∧
      (checkLimit s).stack.backoff = if s.stack.backoff = 0 then x.number.val + 1 else s.stack.backoff := by
  simp only [checkLimit, h, if_true]
  exact ⟨raise_raised _ _, by simp [ownNumber, hx]⟩

/-- A running backoff stays as it is through a check. -/
theorem checkLimit_running {s : State} (h : s.stack.backoff ≠ 0) : (checkLimit s).stack.backoff = s.stack.backoff := by
  unfold checkLimit
  split
  · simp
  · rfl

theorem composeOnce_backoff (s : State) : (composeOnce s).stack.backoff = s.stack.backoff := (composeOnce_uncut s).1

theorem compose_running {s : State} (h : s.stack.backoff ≠ 0) : (compose s).stack.backoff = s.stack.backoff := by
  have h1 := composeOnce_backoff s
  simp only [compose]
  split
  · exact h1
  · rw [composeOnce_backoff, ← h1]
    exact checkLimit_running (by rw [h1]; exact h)

theorem noticeRound_running {s : State} (h : s.stack.backoff ≠ 0) : (noticeRound s).stack.backoff = s.stack.backoff := by
  have hc := compose_running (s := noticeStop (requestTake (noticeFan (noticeEligibility s)))) (by simpa using h)
  simpa [noticeRound] using hc

theorem settle_running {s : State} (h : s.stack.backoff ≠ 0) : (settle s).stack.backoff = s.stack.backoff := by
  have h1 := noticeRound_running h
  have h2 := noticeRound_running (s := noticeRound s) (by rw [h1]; exact h)
  have h3 := noticeRound_running (s := noticeRound (noticeRound s)) (by rw [h2, h1]; exact h)
  have h4 := noticeRound_running (s := noticeRound (noticeRound (noticeRound s))) (by rw [h3, h2, h1]; exact h)
  simp only [settle, followOutputs_stack]
  rw [h4, h3, h2, h1]

theorem evaluate_of_over {s : State} {x : Straps} (h : overLimit s = true) (hx : s.join.straps = some x) :
    raised .stackCut (evaluate s) = true ∧
      (evaluate s).stack.backoff = if s.stack.backoff = 0 then x.number.val + 1 else s.stack.backoff := by
  obtain ⟨hraised, hbackoff⟩ := checkLimit_of_over h hx
  have hrun : (formCap (checkLimit s)).stack.backoff ≠ 0 := by
    show (checkLimit s).stack.backoff ≠ 0
    rw [hbackoff]; split <;> simp_all
  simp only [evaluate]
  split
  · exact ⟨hraised, hbackoff⟩
  · exact ⟨compose_keeps _ _ hraised, (compose_running hrun).trans hbackoff⟩

theorem evaluate_of_within {s : State} (h : overLimit s = false) (hp : presenceCount s ≤ 16) : uncut s (evaluate s) := by
  simp only [evaluate, checkLimit_of_within h]
  split
  · exact ⟨rfl, rfl⟩
  · exact compose_uncut (s := formCap s) hp

/-- The over-limit finding reads the claim of the one state and the riser of the other. -/
theorem overLimitIn_iff {s u t : State} (hclaim : u.stack.claim = s.stack.claim) (hj : t.join = u.join) (hp : t.peers = u.peers) :
    overLimitIn s t ↔ overLimit u = true := by
  simp [overLimitIn, overLimit, peerClaims, heldReports, baseShare, presenceCount, hj, hp, hclaim]

theorem presenceCount_congr {s t : State} (h : t.peers = s.peers) : presenceCount t = presenceCount s := by
  simp [presenceCount, h]

theorem evaluate_running {s : State} (h : s.stack.backoff ≠ 0) : (evaluate s).stack.backoff = s.stack.backoff := by
  have h1 := checkLimit_running h
  simp only [evaluate]
  split
  · exact h1
  · exact (compose_running (s := formCap (checkLimit s)) (by rw [← h1] at h; exact h)).trans h1

/-- An evaluation of the claim as it stood. -/
theorem evaluate_atLine {s u : State} (hstack : u.stack = s.stack) (hstraps : u.join.straps = s.join.straps)
    (hcut : raised .stackCut u = raised .stackCut s) : evaluatedAtLine s (evaluate u) := by
  have hover : overLimitIn s (evaluate u) ↔ overLimit u = true := overLimitIn_iff (by rw [hstack]) (by simp) (by simp)
  refine ⟨evaluate_capFormed u, fun x hx => ⟨fun h => ?_, fun h hp => ?_⟩⟩
  · obtain ⟨hraised, hbackoff⟩ := evaluate_of_over (hover.mp h) (hstraps.trans hx)
    exact ⟨hraised, by rw [hbackoff, hstack]⟩
  · rw [hover, Bool.not_eq_true] at h
    rw [presenceCount_congr (s := u) (by simp)] at hp
    obtain ⟨hb, hr⟩ := evaluate_of_within h hp
    exact ⟨by rw [hb, hstack], by rw [hr, hcut]⟩

/-- A claim under a cap formed for it is not over the limit, with at most sixteen stations on the riser. -/
theorem within_of_capFormed {s : State} (hp : presenceCount s ≤ 16) (hcap : capFormed s) (hclaim : s.stack.claim ≤ s.stack.cap) :
    overLimit s = false := by
  unfold capFormed at hcap
  have hw := capFor_within hp (hcap ▸ hclaim)
  simpa [overLimit] using hw

theorem composeOnce_claim_le {s : State} {x : Straps} (hx : s.join.straps = some x) :
    (composeOnce s).stack.claim ≤ (composeOnce s).stack.cap := by
  simp only [composeOnce, hx]
  exact targetsOf_extract_le _ _ _ _

theorem compose_claim_le {s : State} {x : Straps} (hx : s.join.straps = some x) :
    (compose s).stack.claim ≤ (compose s).stack.cap := by
  simp only [compose]
  split
  · exact composeOnce_claim_le hx
  · exact composeOnce_claim_le (x := x) (by simpa using hx)

/-- After an evaluation that found nothing the claim is within the limit still. -/
theorem evaluate_within {s : State} {x : Straps} (hx : s.join.straps = some x) (hp : presenceCount s ≤ 16)
    (h : overLimit s = false) : overLimit (evaluate s) = false := by
  simp only [evaluate, checkLimit_of_within h]
  split
  · exact h
  · refine within_of_capFormed ?_ (compose_capFormed (formCap_capFormed s)) (compose_claim_le (x := x) hx)
    rw [presenceCount_congr (s := s) (by simp)]
    exact hp

/-- The running figures of an evaluation are not those of 0. -/
theorem begun_ne_zero {b n : Nat} : (if b = 0 then n + 1 else b) ≠ 0 := by
  split
  · exact Nat.succ_ne_zero n
  · assumption

/-- The evaluation of a change of line condition reads, of the state after it, the cap, the riser and what a check leaves. -/
theorem evaluatedAtLine_congr {s v w : State} (h : evaluatedAtLine s v) (hcap : capFormed w)
    (hterms : w.join.terms = v.join.terms) (hp : w.peers.records = v.peers.records) (hb : w.stack.backoff = v.stack.backoff)
    (hr : raised .stackCut w = raised .stackCut v) : evaluatedAtLine s w := by
  have hover : overLimitIn s w ↔ overLimitIn s v := by simp [overLimitIn, heldReports, presenceCount, hterms, hp]
  have hcount : presenceCount w = presenceCount v := by simp [presenceCount, hp]
  obtain ⟨_, h⟩ := h
  refine ⟨hcap, fun x hx => ?_⟩
  rw [hover, hcount, hb, hr]
  exact h x hx

/-- The end of an event leaves what the evaluation left. -/
theorem evaluatedAtLine_settle {s v : State} (h : evaluatedAtLine s v) :
    evaluatedAtLine s (settle v) := by
  have hover : overLimitIn s (settle v) ↔ overLimitIn s v := by simp [overLimitIn, heldReports, presenceCount]
  obtain ⟨hcap, h⟩ := h
  refine ⟨settle_capFormed hcap, fun x hx => ⟨fun ho => ?_, fun ho hp => ?_⟩⟩
  · obtain ⟨hraised, hbackoff⟩ := (h x hx).1 (hover.mp ho)
    refine ⟨settle_keeps _ _ hraised, ?_⟩
    rw [settle_running (by rw [hbackoff]; exact begun_ne_zero), hbackoff]
  · rw [presenceCount_congr (s := v) (by simp)] at hp
    obtain ⟨hb, hr⟩ := (h x hx).2 (fun e => ho (hover.mpr e)) hp
    obtain ⟨hb', hr'⟩ := settle_uncut hp
    exact ⟨by rw [hb', hb], by rw [hr', hr]⟩

/-- A second evaluation within one event adds nothing to the first, whatever the line condition between them. -/
theorem evaluatedAtLine_again {s u w : State} (hstack : u.stack = s.stack) (hstraps : u.join.straps = s.join.straps)
    (hcut : raised .stackCut u = raised .stackCut s) (hj : w.join = u.join) (hp : w.peers = u.peers)
    (hst : w.stack = (evaluate u).stack) (hr : raised .stackCut w = raised .stackCut (evaluate u)) :
    evaluatedAtLine s (evaluate w) := by
  obtain ⟨_, h⟩ := evaluate_atLine hstack hstraps hcut
  have hover : overLimitIn s (evaluate w) ↔ overLimitIn s (evaluate u) := by
    simp [overLimitIn, heldReports, presenceCount, hj, hp]
  have hcount : presenceCount (evaluate w) = presenceCount (evaluate u) := by simp [presenceCount, hp]
  have hcountw : presenceCount w = presenceCount (evaluate u) := by simp [presenceCount, hp]
  have hcountu : presenceCount u = presenceCount (evaluate u) := by simp [presenceCount]
  refine ⟨evaluate_capFormed w, fun x hx => ⟨fun ho => ?_, fun ho hpc => ?_⟩⟩
  · obtain ⟨hraised, hbackoff⟩ := (h x hx).1 (hover.mp ho)
    refine ⟨evaluate_keeps _ _ (hr.trans hraised), ?_⟩
    rw [evaluate_running (by rw [hst, hbackoff]; exact begun_ne_zero), hst, hbackoff]
  · rw [hcount] at hpc
    obtain ⟨hb, hru⟩ := (h x hx).2 (fun e => ho (hover.mpr e)) hpc
    have hnone : overLimit u = false := by
      rw [← Bool.not_eq_true, ← overLimitIn_iff (s := s) (t := evaluate u) (by rw [hstack]) (by simp) (by simp)]
      exact fun e => ho (hover.mpr e)
    have hw : overLimit w = false := by
      have := evaluate_within (hstraps.trans hx) (by rw [hcountu]; exact hpc) hnone
      simpa [overLimit, peerClaims, heldReports, baseShare, presenceCount, hj, hp, hst] using this
    obtain ⟨hb', hr'⟩ := evaluate_of_within hw (by rw [hcountw]; exact hpc)
    exact ⟨by rw [hb', hst, hb], by rw [hr', hr, hru]⟩

theorem place_injective {f g : EventFlag} (h : f.place = g.place) : f = g := by
  revert h; cases f <;> cases g <;> decide

/-- Raising a flag leaves the others as they are. -/
theorem raised_raise_other {f g : EventFlag} (h : g ≠ f) (s : State) : raised g (raise f s) = raised g s := by
  have hne : f.place ≠ g.place := fun e => h (place_injective e).symm
  simp only [raised, raise, BitVec.getLsbD_or, BitVec.getLsbD_shiftLeft]
  rcases Nat.lt_or_gt_of_ne hne with hl | hl
  · have hsub : g.place - f.place ≠ 0 := by omega
    simp [hsub]
  · simp [hl]

/-! ### The own place at the end of an event -/

/-- What the notices read and move of the own place and of the frames pending: a property of these that a give-up and a request
for a place keep is kept by the end of an event. -/
structure OfPlace (P : State → Prop) : Prop where
  congr : ∀ u v : State, v.out = u.out → v.own.outstanding = u.own.outstanding → v.own.leaving = u.own.leaving →
    v.line = u.line → v.join = u.join → v.queue = u.queue → v.frost.reTake = u.frost.reTake → P u → P v
  give : ∀ u, P u → P (giveUp u)
  take : ∀ u, P u → P (requestTake u)

section OfPlace
variable {P : State → Prop} (h : OfPlace P)
include h

theorem OfPlace.noticeEligibility {s : State} (hs : P s) : P (noticeEligibility s) := by
  have hown : ∀ u : State, ∀ b, P u → P { u with own := { u.own with eligible := b } } := fun u b =>
    h.congr _ _ rfl rfl rfl rfl rfl rfl rfl
  have hfrost : ∀ u : State, ∀ f : Frost, f.reTake = u.frost.reTake → P u → P { u with frost := f } := fun u f hf =>
    h.congr _ _ rfl rfl rfl rfl rfl rfl hf
  simp only [Machine.noticeEligibility]
  split
  · exact hs
  · split
    · split
      · unfold reduceEligible
        split
        · exact hfrost _ _ rfl (hown _ _ hs)
        · exact h.give _ (hown _ _ hs)
      · exact hown _ _ hs
    · split
      · simp only [preheatLost]
        split
        · exact hfrost _ _ rfl (hown _ _ hs)
        · split
          · exact h.give _ (hfrost _ _ rfl (hown _ _ hs))
          · exact hfrost _ _ rfl (hown _ _ hs)
      · exact hown _ _ hs

theorem OfPlace.noticeFan {s : State} (hs : P s) : P (noticeFan s) := by
  unfold Machine.noticeFan
  split
  · exact h.give _ (h.congr s _ rfl rfl rfl rfl rfl rfl rfl hs)
  · exact hs

theorem OfPlace.noticeRound {s : State} (hs : P s) : P (noticeRound s) :=
  h.congr _ _ (by simp [Machine.noticeRound]) (by simp [Machine.noticeRound]) (by simp [Machine.noticeRound])
    (by simp [Machine.noticeRound]) (by simp [Machine.noticeRound]) (by simp [Machine.noticeRound])
    (by simp [Machine.noticeRound]) (h.take _ (h.noticeFan (h.noticeEligibility hs)))

theorem OfPlace.settle {s : State} (hs : P s) : P (settle s) :=
  h.congr _ _ (by simp [Machine.settle]) (by simp [Machine.settle]) (by simp [Machine.settle]) (by simp [Machine.settle])
    (by simp [Machine.settle]) (by simp [Machine.settle]) (by simp [Machine.settle, followOutputs, followPreheater])
    (h.noticeRound (h.noticeRound (h.noticeRound (h.noticeRound hs))))

end OfPlace

/-- The conditions in which nothing is sent. -/
def mute (s : State) : Prop := s.line.condition = .stuck ∨ s.line.condition = .muted

theorem permitted_mute {s : State} (h : mute s) (w : Wanted) : permitted s w = false := by
  unfold permitted
  rcases h with h | h <;> cases s.join.membership <;> simp [h]

theorem requestGive_mute {s : State} (h : mute s) : requestGive s = { s with own := { s.own with leaving := none } } := by
  simp [requestGive, permitted_mute h]

theorem requestTake_mute {s : State} (h : mute s) : requestTake s = s := by simp [requestTake, permitted_mute h]

/-- On a line in STUCK or MUTED no give-up leaves a serial. -/
theorem ofPlace_leaving : OfPlace (fun u => mute u ∧ u.own.leaving = none) where
  congr u v _ _ hl hline _ _ _ h := by simpa [mute, hl, hline] using h
  give u h := by
    unfold giveUp
    split
    · exact h
    · split
      · rw [requestGive_mute h.1]; exact ⟨h.1, rfl⟩
      · split
        · rename_i e _
          have hm : mute { u with own := { u.own with leaving := some e.serial } } := h.1
          rw [requestGive_mute hm]
          exact ⟨h.1, rfl⟩
        · exact h
  take u h := by rw [requestTake_mute h.1]; exact h

theorem giveUp_outstanding {s : State} (h : s.own.outstanding = false) : (giveUp s).own.outstanding = false := by
  unfold giveUp
  split
  · rfl
  · split
    · unfold requestGive; split <;> exact h
    · split
      · unfold requestGive; split <;> exact h
      · exact h

/-- On a line that is not CLEAR no request for a place is made (R107). -/
theorem ofPlace_outstanding : OfPlace (fun u => u.line.condition ≠ .clear ∧ u.own.outstanding = false) where
  congr u v _ ho _ hline _ _ _ h := by simpa [ho, hline] using h
  give u h := ⟨by simpa using h.1, giveUp_outstanding h.2⟩
  take u h := by
    have hw : wantsTake u = false := by simp [wantsTake, h.1]
    simpa [requestTake, hw] using h

/-! ### Lines on which no frame is formed (R7, R42) -/

theorem live_same {s : State} {f : State → State} (h : f s = s) : live s f = .next s := by simp [live, h]

theorem noFrameFormed_deaf {s : State} (h : canReceive s = false) : noFrameFormed s := by
  refine ⟨fun j c hc => ?_, fun chars => live_same (breakFrame_deaf _ h)⟩
  obtain ⟨deliver, hexec, _⟩ := exec_frameFrom hc
  rw [hexec]
  exact live_same (takeFrame_deaf deliver h)

theorem noFrameFormed_notReady {s : State} (h : s.line.receiverReady = false) : noFrameFormed s :=
  noFrameFormed_deaf (by simp [canReceive, h])

/-! ### Levels (R4, R20) -/

theorem lineSticks_clear {s : State} (hon : s.line.receiverOn = true) (hc : s.line.condition = .clear ∨ s.line.condition = .doubt)
    (hw : s.panel.restartWait = none) : lineSticks s = settle (enterStuck (receiverLost s)) := by
  have hp : (enterStuck (receiverLost s)).panel = s.panel := by simp [enterStuck, withdrawAll, setCondition]; rfl
  rcases hc with hc | hc <;> simp [lineSticks, hon, hc, afterLine, hp, hw]

@[simp] theorem enterDoubt_queue (s : State) : (enterDoubt s).queue = s.queue := by
  simp [enterDoubt, withdrawForDoubt, setCondition]
@[simp] theorem enterDoubt_peers (s : State) : (enterDoubt s).peers = s.peers := by
  simp [enterDoubt, withdrawForDoubt, setCondition]
@[simp] theorem enterDoubt_clock (s : State) : (enterDoubt s).clock = s.clock := by
  simp [enterDoubt, withdrawForDoubt, setCondition]
@[simp] theorem enterDoubt_join (s : State) : (enterDoubt s).join = s.join := by
  simp [enterDoubt, withdrawForDoubt, setCondition]
theorem enterDoubt_raised (s : State) : raised .lineDoubt (enterDoubt s) = true := evaluate_raise _ _

@[simp] theorem enterStuck_queue (s : State) : (enterStuck s).queue = s.queue := by simp [enterStuck, withdrawAll, setCondition]
@[simp] theorem enterStuck_peers (s : State) : (enterStuck s).peers = s.peers := by simp [enterStuck, withdrawAll, setCondition]
@[simp] theorem enterStuck_clock (s : State) : (enterStuck s).clock = s.clock := by simp [enterStuck, withdrawAll, setCondition]
@[simp] theorem enterStuck_join (s : State) : (enterStuck s).join = s.join := by simp [enterStuck, withdrawAll, setCondition]
theorem enterStuck_raised (s : State) : raised .lineStuck (enterStuck s) = true := evaluate_raise _ _

theorem enterDoubt_atLine {s u : State} (hstack : u.stack = s.stack) (hj : u.join = s.join)
    (hcut : raised .stackCut u = raised .stackCut s) : evaluatedAtLine s (settle (enterDoubt u)) :=
  evaluatedAtLine_settle (evaluate_atLine hstack (congrArg Join.straps hj) ((raised_raise_other (by decide) _).trans hcut))

theorem enterStuck_atLine {s u : State} (hstack : u.stack = s.stack) (hj : u.join = s.join)
    (hcut : raised .stackCut u = raised .stackCut s) : evaluatedAtLine s (settle (enterStuck u)) :=
  evaluatedAtLine_settle (evaluate_atLine hstack (congrArg Join.straps hj) ((raised_raise_other (by decide) _).trans hcut))

/-- Settles O9: each event by its case of the line condition, and what follows by the lemmas on the entries of DOUBT and STUCK. -/
theorem lineLevelsHold : Obligations.LineLevels := by
  intro s b hp hon
  refine ⟨fun hc => ?_, fun hc => ?_, ?_, fun hc hw => ?_, fun hc => ?_, noFrameFormed_notReady⟩
  · show live s lineFallsIdle = _
    rw [live_running hp]
    simp [lineFallsIdle, hon, hc]
  · refine ⟨_, live_running hp lineFallsIdle, ?_⟩
    simp only [lineFallsIdle, hon, hc, if_true]
    refine ⟨?_, ?_, ?_, ?_, ?_, settle_keeps _ _ (enterDoubt_raised _), enterDoubt_atLine rfl rfl rfl, ?_, ?_, ?_⟩ <;>
      simp [enterDoubt_line]
  · show live s lineGoesBusy = _
    rw [live_running hp]
    simp [lineGoesBusy, hon, busy]
  · refine ⟨_, live_running hp lineSticks, ?_⟩
    have hline := lineSticks_line hon hc hw
    rw [lineSticks_clear hon hc hw] at hline ⊢
    have hout : (settle (enterStuck (receiverLost s))).out = Outgoing.empty :=
      settle_out_empty (.inl (by simp [enterStuck_line])) (enterStuck_out _)
    refine ⟨by rw [hline], by rw [hline], by rw [hline], by rw [hline], settle_keeps _ _ (enterStuck_raised _), hout, by rw [hline],
      by rw [hline], noFrameFormed_notReady (by rw [hline]), enterStuck_atLine rfl rfl rfl, ?_, ?_, ?_⟩ <;>
      simp [receiverLost, busy]
  · show live s lineSticks = _
    rw [live_running hp]
    rcases hc with hc | hc <;> simp [lineSticks, hon, hc, receiverLost, busy]

/-- Settles O11: the kinds of frame one by one. -/
theorem lostLineKeepsTheFrame : Obligations.LostLineKeepsTheFrame := by
  intro s f hp hf
  have hexec : exec .lostTheLine s = .next { s with
      line := { s.line with sending := none, collisions := min 255 (s.line.collisions + 1) }
      out := if voidQuery s f.content then s.out else pendAgain f.content s.out } := by
    show live s loseLine = _
    rw [live_running hp]
    simp [loseLine, hf]
  rw [hexec]
  refine ⟨fun v hc => ?_, fun v hc => ?_, fun r hc => ?_, fun x hc => ?_, fun x hc ht => ?_, fun x k hc ht => ?_,
    fun hc hm ht => ?_, fun hc hm => ?_⟩
  · simp [hc, voidQuery, pendAgain]
  · simp [hc, voidQuery, pendAgain]
  · simp [hc, voidQuery, pendAgain]
  · simp [hc, voidQuery, pendAgain]
  · simp [hc, voidQuery, pendAgain, ht]
  · have hout : { s.out with terms := some k } = s.out := by rw [← ht]
    simp [hc, voidQuery, pendAgain, ht, hout]
  · simp [hc, voidQuery, pendAgain, ht, hm]
  · simp [hc, voidQuery, hm]

end Sys2Proof.Machine
end

section
/-! SUPPORT. The change to MUTED, the error count and the faults of a frame: the statements O12 and O16. -/

namespace Sys2Proof.Machine

-- One proof after the other, so that the check of the whole text stays within its limit of threads.
set_option Elab.async false

/-! ### Entry to MUTED (R17, R22) -/

theorem enterMuted_line (cause : MutedCause) (s : State) :
    (enterMuted cause s).line =
      { s.line with condition := .muted, cause := if s.line.condition = .muted then s.line.cause else cause
                    run := if s.out.test then none else s.line.run } := by
  unfold enterMuted
  split
  · rename_i h
    simp [withdrawAll, h]
  · simp [withdrawAll]

/-- Besides the line, the flags and the stack share, the change withdraws the frames and tells their owners. -/
theorem enterMuted_rest (cause : MutedCause) (s : State) :
    (enterMuted cause s).out = .empty ∧
    (enterMuted cause s).own = { s.own with outstanding := s.own.outstanding && !s.out.take
                                            leaving := if s.out.give then none else s.own.leaving } ∧
    (enterMuted cause s).queue = s.queue ∧ (enterMuted cause s).peers = s.peers ∧ (enterMuted cause s).clock = s.clock ∧
    (enterMuted cause s).join = s.join := by
  unfold enterMuted
  split <;> simp [withdrawAll]

theorem enterMuted_raised {cause : MutedCause} {s : State} (h : s.line.condition ≠ .muted) :
    raised .muted (enterMuted cause s) = true := by
  simp only [enterMuted, h, if_false]
  exact evaluate_raise _ _

theorem enterMuted_atLine {cause : MutedCause} {s u : State} (h : u.line.condition ≠ .muted) (hstack : u.stack = s.stack)
    (hj : u.join = s.join) (hcut : raised .stackCut u = raised .stackCut s) : evaluatedAtLine s (enterMuted cause u) := by
  simp only [enterMuted, h, if_false]
  exact evaluate_atLine hstack (congrArg Join.straps hj) ((raised_raise_other (by decide) _).trans hcut)

/-- What the end of the event leaves of a change to MUTED with no restart waiting. -/
theorem settle_muted (cause : MutedCause) (s : State) :
    (settle (enterMuted cause s)).out = .empty ∧
    (s.out.give = true → (settle (enterMuted cause s)).own.leaving = none) ∧
    (s.out.take = true → (settle (enterMuted cause s)).own.outstanding = false) := by
  obtain ⟨hout, hown, _⟩ := enterMuted_rest cause s
  have hline := enterMuted_line cause s
  refine ⟨settle_out_empty (.inr (by rw [hline])) hout, fun h => ?_, fun h => ?_⟩
  · exact (ofPlace_leaving.settle (s := enterMuted cause s) ⟨.inr (by rw [hline]), by rw [hown]; simp [h]⟩).2
  · exact (ofPlace_outstanding.settle (s := enterMuted cause s) ⟨by rw [hline]; simp, by rw [hown]; simp [h]⟩).2

/-- The frames pending with a stopped one among them again (R13, R15). -/
theorem pendAgain_test (c : Content) (o : Outgoing) :
    (pendAgain c o).test = true ↔ (∃ x, c = .test x) ∨ o.test = true := by
  cases c <;> simp [pendAgain]

theorem pendAgain_give (c : Content) (o : Outgoing) :
    (pendAgain c o).give = true ↔ (∃ v, c = .give v) ∨ o.give = true := by
  cases c <;> simp [pendAgain]

theorem pendAgain_take (c : Content) (o : Outgoing) :
    (pendAgain c o).take = true ↔ (∃ v, c = .take v) ∨ o.take = true := by
  cases c <;> simp [pendAgain]

/-- The state in which a driver fault finds the station: the line busy, the stopped frame pending again. -/
def stopped (s : State) (f : Sending) : State :=
  busy { s with line := { s.line with sending := none }, out := pendAgain f.content s.out }

theorem failDriver_stopped {s : State} {f : Sending} (hf : s.line.sending = some f) (hw : s.panel.restartWait = none) :
    failDriver s = settle (enterMuted .driverFault (stopped s f)) := by
  simp only [failDriver, hf]
  exact afterLine_noWait _ (by rw [enterMuted_panel]; exact hw)

/-- The evaluations of a frame heard and of the change to MUTED that its sender brings. -/
theorem duplicate_atLine (s : State) (j : Station) (h : s.line.condition ≠ .muted) :
    evaluatedAtLine s (enterMuted .duplicate (heard j s)) := by
  rw [heard_eq]
  split
  · simp only [enterMuted, evaluate_line]
    rw [if_neg (by simp)]
    refine evaluatedAtLine_again (s := s) ?_ ?_ ?_ ?_ ?_ rfl (raised_raise_other (by decide) _)
    any_goals rfl
    · simp [withdrawAll]
    · simp [withdrawAll]
  · exact enterMuted_atLine h rfl rfl rfl

/-- Settles O12. -/
theorem mutedByFaultOrDuplicate : Obligations.MutedByFaultOrDuplicate := by
  refine ⟨fun s f hp hf hw => ?_, fun s own c hp hr ho hw hc => ?_⟩
  · refine ⟨_, (live_running hp failDriver).trans (congrArg _ (failDriver_stopped hf hw)), ?_⟩
    have hline := enterMuted_line .driverFault (stopped s f)
    obtain ⟨_, _, hqueue, hpeers, hclock, _⟩ := enterMuted_rest .driverFault (stopped s f)
    obtain ⟨hout, hgive, htake⟩ := settle_muted .driverFault (stopped s f)
    have htest := pendAgain_test f.content s.out
    simp only [settle_line, settle_queue, settle_peers, settle_clock, hline, hqueue, hpeers, hclock]
    refine ⟨trivial, rfl, rfl, rfl, rfl, hout, fun h => ?_, fun h1 h2 => ?_, fun h => ⟨?_, ?_⟩, fun h => ?_, fun h => ?_, rfl, rfl, rfl⟩
    · exact if_pos (htest.mpr h)
    · exact if_neg fun e => (htest.mp e).elim (fun ⟨x, hx⟩ => h1 x hx) (fun e => by rw [h2] at e; cases e)
    · exact settle_keeps _ _ (enterMuted_raised h)
    · exact evaluatedAtLine_settle (enterMuted_atLine h rfl rfl rfl)
    · exact hgive ((pendAgain_give _ _).mpr h)
    · exact htake ((pendAgain_take _ _).mpr h)
  · obtain ⟨deliver, hexec, _⟩ := exec_frameFrom hc
    have ht : takeFrame own deliver s = settle (enterMuted .duplicate (heard own s)) := by
      rw [takeFrame_own deliver hr ho]
      exact afterLine_noWait _ (by rw [enterMuted_panel, heard_panel]; exact hw)
    refine ⟨_, (hexec s).trans ((live_running hp _).trans (congrArg _ ht)), ?_⟩
    have hline := enterMuted_line .duplicate (heard own s)
    obtain ⟨_, _, hqueue, hpeers, hclock, hjoin⟩ := enterMuted_rest .duplicate (heard own s)
    obtain ⟨hout, hgive, htake⟩ := settle_muted .duplicate (heard own s)
    have hcond : (heard own s).line.condition = .muted ↔ s.line.condition = .muted := by
      rw [heard_line]
      by_cases h : s.line.condition = .doubt ∧ s.line.errors ≤ 1 <;> simp [h]
    simp only [settle_line, settle_queue, settle_peers, settle_clock, settle_join, hline, hqueue, hpeers, hclock, hjoin, hcond,
      heard_out, heard_queue, heard_peers, heard_clock, heard_join]
    rw [heard_out] at hgive htake
    refine ⟨trivial, ?_, ?_, ?_, ?_, ?_, ?_, hout, fun h => ⟨?_, ?_⟩, hgive, htake, trivial, trivial, trivial, trivial⟩
    any_goals simp [heard_line]
    · exact settle_keeps _ _ (enterMuted_raised fun e => h (hcond.mp e))
    · exact evaluatedAtLine_settle (duplicate_atLine s own h)

/-! ### Errors and valid frames (R7, R19, R20) -/

/-- What a frame of a peer leaves as it is, whatever its consumer does with it. -/
structure Delivers (deliver : State → State) : Prop where
  moves : ∀ u, Moves {} u (deliver u)
  line : ∀ u, (deliver u).line = { u.line with tally := (deliver u).line.tally }
  sensors : ∀ u, (deliver u).sensors = u.sensors
  panel : ∀ u, (deliver u).panel = u.panel

/-- A minute evaluation moves the mode record alone (R60, R172). -/
theorem evaluateMinute_eq (s : State) : evaluateMinute s = { s with mode := (evaluateMinute s).mode } := by
  unfold evaluateMinute; split <;> rfl

theorem setClock_eq (time sub : Nat) (s : State) : setClock time sub s =
    { s with clock := { s.clock with time := time, sub := sub, slew := 0, withhold := 0 }, mode := (setClock time sub s).mode } := by
  unfold setClock
  dsimp only
  split
  · rfl
  · exact evaluateMinute_eq _

/-- A report as the time base takes it moves the clock and the mode record alone (R167, R168). -/
theorem clockReport_eq (j : Station) (r : Report) (s : State) :
    clockReport j r s = { s with clock := (clockReport j r s).clock, mode := (clockReport j r s).mode } := by
  unfold clockReport
  dsimp only
  split
  · split
    · rfl
    · split
      · split <;> rfl
      · exact setClock_eq _ _ _ ▸ rfl
  · rfl

/-- Forming the states moves the filter records and their flag alone (R152, R158). -/
theorem setFilters_eq (s : State) (f : Filters) : setFilters s f = { s with filters := f, events := (setFilters s f).events } := by
  unfold setFilters raiseIf; split <;> rfl

theorem filterReport_eq (s : State) :
    filterReport s = { s with filters := (filterReport s).filters, events := (filterReport s).events } := by
  unfold filterReport
  split
  · unfold formStates; rw [setFilters_eq]
  · rfl

@[simp] theorem evaluateSkew_sensors (s : State) : (evaluateSkew s).sensors = s.sensors := by
  unfold evaluateSkew; split <;> simp
@[simp] theorem evaluateSkew_panel (s : State) : (evaluateSkew s).panel = s.panel := by unfold evaluateSkew; split <;> simp

theorem delivers_status (j : Station) (p : StatusBytes) : Delivers (deliverStatus j p) where
  moves := deliverStatus_moves j p
  line u := by simp
  sensors u := by
    unfold deliverStatus
    split
    · rfl
    · unfold consumeReport; rw [filterReport_eq, clockReport_eq]; simp [queueReport, recordReport]
  panel u := by
    unfold deliverStatus
    split
    · rfl
    · unfold consumeReport; rw [filterReport_eq, clockReport_eq]; simp [queueReport, recordReport]

theorem delivers_terms (j : Station) (p : TermsBytes) : Delivers (deliverTerms j p) where
  moves := deliverTerms_moves j p
  line u := by simp
  sensors u := by unfold deliverTerms; (repeat' split) <;> rfl
  panel u := by unfold deliverTerms; (repeat' split) <;> rfl

theorem exec_delivers {j : Station} {c : Instr} (hc : frameFrom j c) :
    ∃ deliver : State → State, (∀ s, exec c s = live s (takeFrame j deliver)) ∧ Delivers deliver := by
  rcases hc with ⟨p, rfl⟩ | ⟨v, rfl⟩ | ⟨v, rfl⟩ | rfl | ⟨p, rfl⟩ | ⟨p, rfl⟩
  · exact ⟨deliverStatus j p, fun _ => rfl, delivers_status j p⟩
  · exact ⟨queueTake j v, fun _ => rfl, queueTake_moves j v, fun _ => by simp, fun _ => by simp, fun _ => by simp⟩
  · exact ⟨queueGive j v, fun _ => rfl, queueGive_moves j v, fun _ => rfl, fun _ => rfl, fun _ => rfl⟩
  · exact ⟨answerQuery, fun _ => rfl, fun u => (answerQuery_free u).moves, fun u => by simp,
      fun u => (answerQuery_free (m := {}) u).sensors, fun u => (answerQuery_free (m := {}) u).panel⟩
  · exact ⟨deliverTerms j p, fun _ => rfl, delivers_terms j p⟩
  · exact ⟨tallyTest j p.toList, fun _ => rfl, tallyTest_moves j p.toList, fun _ => rfl, fun _ => rfl, fun _ => rfl⟩

/-- The end of DOUBT by a valid frame forms the cap (R87, R89). -/
theorem heard_capFormed {s : State} (j : Station) (hc : s.line.condition = .doubt) (he : s.line.errors ≤ 1) :
    capFormed (heard j s) := by
  rw [heard_eq, if_pos ⟨hc, he⟩]
  exact evaluate_capFormed _

/-- What an error does, its two cases (R19, R20). -/
theorem errorUp_entered {s : State} (hc : s.line.condition = .clear)
    (he : s.join.terms.errorThreshold ≤ min 31 (s.line.errors + 1)) :
    errorUp s = enterDoubt { s with line := { s.line with errors := min 31 (s.line.errors + 1) } } := by
  simp only [errorUp, hc, decide_true, Bool.true_and, decide_eq_true_eq]
  exact if_pos he

theorem errorUp_counted {s : State}
    (h : s.line.condition ≠ .clear ∨ min 31 (s.line.errors + 1) < s.join.terms.errorThreshold) :
    errorUp s = { s with line := { s.line with errors := min 31 (s.line.errors + 1) } } := by
  have hn : ¬ (s.line.condition = .clear ∧ s.join.terms.errorThreshold ≤ min 31 (s.line.errors + 1)) :=
    fun ⟨h1, h2⟩ => h.elim (fun h => h h1) (fun h => absurd h2 (Nat.not_le.mpr h))
  simp only [errorUp, Bool.and_eq_true, decide_eq_true_eq]
  exact if_neg hn

theorem enterDoubt_out (s : State) : (enterDoubt s).out = { s.out with take := false, test := false } := by
  simp [enterDoubt, withdrawForDoubt, setCondition]

theorem receiveFault_badStop {header : RxChar} (rest : List RxChar) (h : header.stopGood = false) :
    receiveFault (header :: rest) = some .badStop := by simp [receiveFault, h]

/-- A header of a known kind: the fault lies in what follows it. -/
theorem receiveFault_known {header : RxChar} {lengths : List Nat} (rest : List RxChar) (h : header.stopGood = true)
    (hk : kindLengths (header.byte.toNat / 16) = some lengths) :
    receiveFault (header :: rest) =
      match rest with
      | [] => some .fragment
      | length :: body =>
        if !length.stopGood then some .badStop
        else if !lengths.contains length.byte.toNat then some .badLength
        else if (body.take (length.byte.toNat + 1)).any (fun c => !c.stopGood) then some .badStop
        else if (body.take (length.byte.toNat + 1)).length < length.byte.toNat + 1 then some .fragment
        else if checkByte (header.byte :: length.byte ::
            ((body.take (length.byte.toNat + 1)).map RxChar.byte).take (length.byte.toNat + 1 - 1)) =
              ((body.take (length.byte.toNat + 1)).map RxChar.byte).getLastD 0 then none
        else some .checkMismatch := by
  cases rest <;> simp [receiveFault, h, hk]

theorem kindLengths_unknown {code : Nat} (h : 5 < code) : kindLengths code = none := by
  unfold kindLengths
  split <;> first | omega | rfl

theorem faultsDetected_hold : faultsDetected := by
  refine ⟨rfl, fun _ rest h => receiveFault_badStop rest h, fun header rest h hk => by simp [receiveFault, h, hk],
    fun header lengths h hk => ⟨receiveFault_known [] h hk, fun length body => ⟨fun hl => ?_, fun hl hm => ?_, fun hl hm => ⟨?_, ?_⟩⟩⟩,
    rfl, rfl, rfl, rfl, rfl, rfl, fun code hcode => kindLengths_unknown hcode⟩
  · simp [receiveFault_known _ h hk, hl]
  · simp [receiveFault_known _ h hk, hl, hm]
  · rintro ⟨c, hc, hbad⟩
    have hany : (body.take (length.byte.toNat + 1)).any (fun c => !c.stopGood) = true :=
      List.any_eq_true.mpr ⟨c, hc, by simp [hbad]⟩
    simp only [receiveFault_known _ h hk, hany]
    simp [hl, hm]
  · intro hgood hshort
    have hany : (body.take (length.byte.toNat + 1)).any (fun c => !c.stopGood) = false := by
      rw [List.any_eq_false]
      intro c hc
      simp [hgood c (List.mem_of_mem_take hc)]
    have hlen : (body.take (length.byte.toNat + 1)).length < length.byte.toNat + 1 := by
      rw [List.length_take]; omega
    simp only [receiveFault_known _ h hk, hany]
    rw [if_pos hlen]
    simp [hl, hm]

/-- Settles O16. -/
theorem errorCountFollowsFrames : Obligations.ErrorCountFollowsFrames := by
  refine ⟨fun s j c hp hr ho hc => ?_, fun s chars hp hr hf => ?_, fun s chars hp hf => ?_, faultsDetected_hold⟩
  · obtain ⟨deliver, hexec, hd⟩ := exec_delivers hc
    have hmoves := (heard_moves (m := {}) j s).trans (hd.moves _)
    refine ⟨_, (hexec s).trans ((live_running hp _).trans (congrArg _ (takeFrame_peer deliver hr ho))), ?_⟩
    have hline : (settle (deliver (heard j s))).line = { (heard j s).line with tally := (deliver (heard j s)).line.tally } := by
      rw [settle_line, hd.line]
    rw [heard_line] at hline
    refine ⟨by rw [hline], by rw [hline], fun hcond he => ?_, by rw [hline], by rw [hline], ?_, ?_, ?_, ?_, ?_⟩
    · exact settle_capFormed ((hd.moves _).cap (heard_capFormed j hcond he))
    · rw [settle_power]; exact hmoves.frame.power
    · rw [settle_nv]; exact hmoves.frame.record rfl
    · rw [settle_sensors, hd.sensors, heard_sensors]
    · rw [settle_panel, hd.panel, heard_panel]
    · rw [settle_pending]; exact hmoves.frame.pending
  · have hexec : exec (.receiveError chars) s = .next (settle (errorUp (receiverLost s))) := by
      show live s (breakFrame (receiveChars chars)) = _
      rw [live_running hp]
      simp [breakFrame, hr, hf]
    refine ⟨_, hexec, ?_⟩
    by_cases h : s.line.condition = .clear ∧ s.join.terms.errorThreshold ≤ min 31 (s.line.errors + 1)
    · rw [errorUp_entered (s := receiverLost s) h.1 h.2]
      refine ⟨?_, ?_, ?_, ?_, fun _ _ => ⟨?_, settle_keeps _ _ (enterDoubt_raised _), settle_take_off ?_ ?_, ?_, ?_,
        enterDoubt_atLine rfl rfl rfl⟩, fun hn => ?_, ?_, ?_, ?_, ?_⟩
      any_goals simp [enterDoubt_line, enterDoubt_out, receiverLost, busy]; done
      exact absurd h.2 (by rcases hn with hn | hn; exact absurd h.1 hn; exact Nat.not_le.mpr hn)
    · have hn : s.line.condition ≠ .clear ∨ min 31 (s.line.errors + 1) < s.join.terms.errorThreshold := by
        rw [not_and_or, Nat.not_le] at h; exact h
      rw [errorUp_counted (s := receiverLost s) hn]
      refine ⟨?_, ?_, ?_, ?_, fun h1 h2 => absurd ⟨h1, h2⟩ h, fun _ => ⟨?_, ?_⟩, ?_, ?_, ?_, ?_⟩ <;>
        simp [receiverLost, busy]
  · show live s (breakFrame (receiveChars chars)) = _
    exact live_same (by simp [breakFrame, hf])

end Sys2Proof.Machine
end

section
/-! SUPPORT. Which entry a station has after each operation of the queue copy: the statements O18 and O19. -/

namespace Sys2Proof.Machine

-- One proof after the other, so that the check of the whole text stays within its limit of threads.
set_option Elab.async false

/-! ### Serials -/

theorem serialDistance_succ_left {v n : Byte} (h : serialDistance v n ≤ 254) :
    serialDistance (v + 1) n = serialDistance v n + 1 := by
  unfold serialDistance at *
  simp only [BitVec.toNat_sub, BitVec.toNat_add] at *
  have h1 : (1 : Byte).toNat = 1 := rfl
  omega

/-- Far from 0 the distance of the next serial wraps round. -/
theorem serialDistance_succ_range (v n : Byte) :
    1 ≤ serialDistance (v + 1) n ∧ serialDistance (v + 1) n ≤ 127 ↔ serialDistance v n ≤ 126 := by
  unfold serialDistance
  simp only [BitVec.toNat_sub, BitVec.toNat_add]
  have h1 : (1 : Byte).toNat = 1 := rfl
  omega

theorem serialDistance_self (v : Byte) : serialDistance v v = 0 := by simp [serialDistance]

/-! ### A station's entry (R115) -/

/-- The entry of station k in a list of entries. -/
def entryIn (l : List Entry) (k : Station) : Option Entry := l.find? (fun e => decide (e.station = k))

theorem entryOf_eq (q : Queue) (k : Station) : entryOf q k = entryIn q.entries k := rfl

theorem entryIn_station {l : List Entry} {k : Station} {e : Entry} (h : entryIn l k = some e) : e.station = k := by
  simpa using List.find?_some h

theorem entryIn_none_iff {l : List Entry} {k : Station} : entryIn l k = none ↔ ∀ x ∈ l, x.station ≠ k := by
  simp [entryIn]

theorem entryIn_insert_other {n : Byte} {e : Entry} {k : Station} (h : k ≠ e.station) (l : List Entry) :
    entryIn (insertEntry n e l) k = entryIn l k := by
  have he : decide (e.station = k) = false := by simp [Ne.symm h]
  induction l with
  | nil => simp [insertEntry, entryIn, he]
  | cons x xs ih =>
    unfold entryIn at *
    unfold insertEntry
    split
    · rw [List.find?_cons, he]
    · rw [List.find?_cons, List.find?_cons, ih]

theorem entryIn_without_self (j : Station) (l : List Entry) : entryIn (withoutStation j l) j = none :=
  entryIn_none_iff.mpr (withoutStation_ne j l)

theorem entryIn_without_other {j k : Station} (h : k ≠ j) (l : List Entry) : entryIn (withoutStation j l) k = entryIn l k := by
  unfold entryIn withoutStation
  rw [List.find?_filter]
  congr 1
  funext e
  by_cases hk : e.station = k
  · simp [hk, h]
  · simp [hk]

theorem entryIn_place_self (n : Byte) (e : Entry) (l : List Entry) : entryIn (placeEntry n e l) e.station = some e :=
  placeEntry_find n e l

theorem entryIn_place_other {n : Byte} {e : Entry} {k : Station} (h : k ≠ e.station) (l : List Entry) :
    entryIn (placeEntry n e l) k = entryIn l k := by
  unfold placeEntry
  rw [entryIn_insert_other h, entryIn_without_other h]

/-- With one entry for each station, an entry is found after a removal when it stays. -/
theorem entryIn_filter {l : List Entry} (h : (l.map Entry.station).Nodup) (p : Entry → Bool) (k : Station) :
    entryIn (l.filter p) k = (entryIn l k).filter p := by
  induction l with
  | nil => rfl
  | cons x xs ih =>
    rw [List.map_cons, List.nodup_cons] at h
    have ih := ih h.2
    by_cases hx : x.station = k
    · have hrest : entryIn (xs.filter p) k = none := entryIn_none_iff.mpr fun y hy hyk =>
        h.1 (by rw [hx, ← hyk]; exact List.mem_map_of_mem (List.mem_of_mem_filter hy))
      by_cases hp : p x
      · simp [entryIn, hx, hp, Option.filter]
      · rw [List.filter_cons_of_neg hp, hrest]
        simp [entryIn, hx, hp, Option.filter]
    · have hcons : entryIn (x :: xs) k = entryIn xs k := by simp [entryIn, hx]
      rw [hcons, ← ih]
      by_cases hp : p x
      · rw [List.filter_cons_of_pos hp]; simp [entryIn, hx]
      · rw [List.filter_cons_of_neg hp]

theorem entryIn_append_fresh (j : Station) (e : Entry) (he : e.station = j) (l : List Entry) :
    entryIn (withoutStation j l ++ [e]) j = some e := by
  have hnone := entryIn_without_self j l
  unfold entryIn at *
  rw [List.find?_append, hnone]
  simp [he]

/-- A change of the entries that keeps their stations changes each station's entry. -/
theorem entryIn_map {f : Entry → Entry} (hf : ∀ e, (f e).station = e.station) (l : List Entry) (k : Station) :
    entryIn (l.map f) k = (entryIn l k).map f := by
  unfold entryIn
  rw [List.find?_map]
  congr 2
  funext e
  simp [hf]

/-! ### N and the entries a move of it ages out (R131) -/

theorem entryOf_advance {q : Queue} (h : q.single) (v : Byte) (k : Station) :
    entryOf (q.advance v) k =
      (entryOf q k).filter (fun e => decide (serialDistance q.n e.serial + serialDistance v q.n < 240)) :=
  entryIn_filter h _ k

theorem raiseTo_eq (q : Queue) (v : Byte) : q.raiseTo v = { q with
    n := if q.nSet = false ∨ (1 ≤ serialDistance v q.n ∧ serialDistance v q.n ≤ 127) then v else q.n, nSet := true } := by
  unfold Queue.raiseTo
  by_cases h : q.nSet = false ∨ (1 ≤ serialDistance v q.n ∧ serialDistance v q.n ≤ 127)
  · rw [if_pos h, if_pos (by simpa using h)]
  · rw [if_neg h, if_neg (by simpa using h)]
    rw [not_or, Bool.not_eq_false] at h
    cases q
    simp_all

theorem raisePast_eq (q : Queue) (v : Byte) : q.raisePast v = { q with
    n := if q.nSet = false ∨ serialDistance v q.n ≤ 126 then v + 1 else q.n, nSet := true } := by
  unfold Queue.raisePast
  simp only [raiseTo_eq, serialDistance_succ_range]
  by_cases h : q.nSet = false ∨ serialDistance v q.n ≤ 127
  · rw [if_pos (by simpa using h)]
  · rw [if_neg (by simpa using h)]
    have h2 : ¬ (q.nSet = false ∨ serialDistance v q.n ≤ 126) := fun e => h (e.imp id (by omega))
    rw [not_or, Bool.not_eq_false] at h
    rw [if_neg h2]
    cases q
    simp_all

/-! ### TAKE and GIVE (R119, R121 to R123) -/

theorem collect_eq (q : Queue) (j : Station) (v : Byte) : q.collect j v = { q with
    entries := withoutStation j q.entries ++ [{ station := j, serial := v, shadow := none, hold := 0 }]
    n := if q.nSet = false ∨ serialDistance v q.n ≤ 126 then v + 1 else q.n
    nSet := true } := by
  unfold Queue.collect
  rw [raisePast_eq]
  rfl

theorem entryOf_collect (q : Queue) (j : Station) (v : Byte) :
    entryOf (q.collect j v) j = some { station := j, serial := v, shadow := none, hold := 0 } := by
  rw [collect_eq]
  exact entryIn_append_fresh j _ rfl _

theorem entryOf_accept_other {q : Queue} (h : q.single) {j k : Station} (hk : k ≠ j) (v : Byte) :
    entryOf (q.accept j v) k =
      (entryOf q k).filter (fun e => decide (serialDistance q.n e.serial + serialDistance (v + 1) q.n < 240)) :=
  (entryIn_place_other (e := freshEntry j v) hk _).trans (entryOf_advance h (v + 1) k)

theorem entryOf_drop_self (q : Queue) (j : Station) : entryOf (q.drop j) j = none := entryIn_without_self j _

theorem entryOf_drop_other (q : Queue) {j k : Station} (h : k ≠ j) : entryOf (q.drop j) k = entryOf q k :=
  entryIn_without_other h _

/-- A GIVE leaves its station no entry. -/
theorem entryOf_give (q : Queue) (j : Station) (v : Byte) : entryOf (q.give j v) j = none := by
  unfold Queue.give
  split
  · exact entryOf_drop_self q j
  · split
    · assumption
    · split <;> exact entryOf_drop_self q j

/-- The near bands of R121: N moves past the serial and the entry enters. -/
theorem takeNear_near {q : Queue} {x : Terms} {j : Station} {v : Byte} (h : serialDistance v q.n ≤ x.ahead) :
    q.takeNear x j v =
      if 1 ≤ serialDistance v q.n ∨ (entryOf q j).isSome = true then (q.accept j v).doubted else q.accept j v := by
  unfold Queue.takeNear takeBand
  by_cases h0 : serialDistance v q.n = 0
  · simp [h0]
  · have h1 : 1 ≤ serialDistance v q.n := Nat.one_le_iff_ne_zero.mpr h0
    simp [h0, h, h1]

theorem takeBand_far_iff {x : Terms} {n v : Byte} :
    takeBand x n v = .far ↔ serialDistance v n ≠ 0 ∧ x.ahead < serialDistance v n ∧ serialDistance v n < 256 - x.behind := by
  unfold takeBand
  dsimp only
  split
  · simp_all
  · split
    · simp; omega
    · split
      · simp; omega
      · simp; omega

theorem takeNear_stale {q : Queue} {x : Terms} {j : Station} {v : Byte} (h0 : serialDistance v q.n ≠ 0)
    (h1 : x.ahead < serialDistance v q.n) (h2 : 256 - x.behind ≤ serialDistance v q.n) :
    q.takeNear x j v = { q with stale := min 255 (q.stale + 1) } := by
  simp [Queue.takeNear, takeBand, h0, Nat.not_le.mpr h1, h2]

/-- A lockout moves the outgoing set, the own place, the queue copy and its flag (R122). -/
theorem lockout_eq (s : State) : lockout s = raise .queueLockout { s with
    out := (lockout s).out, own := (lockout s).own, queue := s.queue.toRebuild, line := s.line } := by
  have hgive : ∀ u : State, requestGive u = { u with out := (requestGive u).out, own := (requestGive u).own } := fun u => by
    unfold requestGive; split <;> rfl
  unfold lockout
  dsimp only
  split
  · rw [hgive]; split <;> rfl
  · split <;> rfl

theorem queueTake_rebuild {s : State} (h : s.queue.state = .rebuild) (j : Station) (v : Byte) :
    queueTake j v s = { s with queue := s.queue.collect j v } := by simp [queueTake, h]

theorem queueTake_near {s : State} (h : s.queue.state ≠ .rebuild) {j : Station} {v : Byte}
    (hb : takeBand s.join.terms s.queue.n v ≠ .far) :
    queueTake j v s = { s with queue := s.queue.takeNear s.join.terms j v } := by simp [queueTake, h, hb]

theorem queueTake_far {s : State} (h : s.queue.state ≠ .rebuild) {j : Station} {v : Byte}
    (hb : takeBand s.join.terms s.queue.n v = .far) : queueTake j v s = lockout s := by simp [queueTake, h, hb]

theorem usable_bands {x : Terms} (h : x.usable = true) : x.ahead < 256 - x.behind := by
  simp only [Terms.usable, Bool.and_eq_true, decide_eq_true_eq] at h
  omega


/-- Settles O19. -/
theorem takeAndGiveInTheCopy : Obligations.TakeAndGiveInTheCopy := by
  refine ⟨fun s j v hp hr ho hs hu => ?_, fun s j v hp hr ho => ?_⟩
  · intro d
    have hexec : exec (.takeTaken j v) s = .next (settle (queueTake j v (heard j s))) :=
      (live_running hp _).trans (congrArg _ (takeFrame_peer _ hr ho))
    have hbands : s.join.terms.ahead < 256 - s.join.terms.behind := usable_bands hu
    have hs' : (heard j s).queue.state ≠ .rebuild := by rw [heard_queue]; exact hs
    have hnear : takeBand s.join.terms s.queue.n v ≠ .far → (queueTake j v (heard j s)).queue =
        s.queue.takeNear s.join.terms j v := fun hb => by
      rw [queueTake_near hs' (by rw [heard_queue, heard_join]; exact hb)]; simp
    refine ⟨_, hexec, by simp, by simp, fun hd => ?_, fun hd => ?_, fun h1 h2 => ?_⟩
    · have hq : (settle (queueTake j v (heard j s))).queue = s.queue.takeNear s.join.terms j v := by
        rw [settle_queue, hnear]
        rw [Ne, takeBand_far_iff]
        omega
      rw [hq, takeNear_near hd]
      refine ⟨?_, ?_, fun h => ?_, fun h0 hn => ?_, fun hsingle k hk => ?_, ?_, ?_⟩
      · split <;> exact accept_entryOf _ _ _
      · split <;> rfl
      · rw [if_pos h]; exact ⟨rfl, rfl⟩
      · rw [if_neg (by rw [hn, show serialDistance v s.queue.n = 0 from h0]; simp)]; rfl
      · split <;> exact entryOf_accept_other hsingle hk v
      · split <;> rfl
      · split <;> rfl
    · have h0 : d ≠ 0 := by omega
      rw [settle_queue, hnear (by rw [Ne, takeBand_far_iff]; omega)]
      exact takeNear_stale h0 (by omega) hd
    · have hfar : takeBand s.join.terms s.queue.n v = .far := takeBand_far_iff.mpr ⟨by omega, h1, h2⟩
      rw [queueTake_far hs' (by rw [heard_queue, heard_join]; exact hfar), lockout_eq]
      exact ⟨by rw [settle_queue, raise_queue, heard_queue]; rfl, settle_keeps _ _ (raise_raised _ _)⟩
  · have hgive : exec (.giveTaken j v) s = .next (settle (queueGive j v (heard j s))) :=
      (live_running hp _).trans (congrArg _ (takeFrame_peer _ hr ho))
    have htake : exec (.takeTaken j v) s = .next (settle (queueTake j v (heard j s))) :=
      (live_running hp _).trans (congrArg _ (takeFrame_peer _ hr ho))
    have hq : (settle (queueGive j v (heard j s))).queue = s.queue.give j v := by simp [queueGive]
    refine ⟨_, _, hgive, by simp [queueGive], by simp [queueGive], by rw [hq]; exact entryOf_give _ _ _, fun h1 h2 => ?_,
      fun e h1 h2 h3 => ?_, fun e h1 h2 h3 => ?_, fun h => ?_, htake, fun h => ?_⟩
    · rw [hq]; simp [Queue.give, h1, h2]
    · rw [hq]; simp [Queue.give, h1, h2, h3, Queue.drop]
    · rw [hq]; simp [Queue.give, h1, h2, h3, Queue.drop, Queue.doubted]
    · rw [hq]; simp [Queue.give, h, Queue.drop]
    · have hu : (settle (queueTake j v (heard j s))).queue = s.queue.collect j v := by
        rw [settle_queue, queueTake_rebuild (by rw [heard_queue]; exact h)]; simp
      rw [hu]
      refine ⟨entryOf_collect _ _ _, ?_⟩
      rw [collect_eq]
      exact ⟨h, rfl, rfl, rfl, fun hn => if_pos (.inl hn), fun _ hd => if_pos (.inr hd),
        fun hn hd => if_neg (by rw [hn]; simp; omega)⟩

/-! ### Round reports (R119, R124, R125) -/

theorem reportedN_holds (q : Queue) (x : Terms) (r : Report) : reportedN q x r := by
  refine ⟨fun h => ?_, fun h hd => ?_, fun h h1 h2 h3 => ?_, fun h h1 h2 h3 => ?_⟩
  · simp [Queue.reportN, h]
  · simp [Queue.reportN, h, hd]
  · have h0 : ¬ (serialDistance r.n q.n = 0 ∨ 128 ≤ serialDistance r.n q.n) := by omega
    simp [Queue.reportN, h, h0, Nat.not_le.mpr h3, Queue.doubted]
  · have h0 : ¬ (serialDistance r.n q.n = 0 ∨ 128 ≤ serialDistance r.n q.n) := by omega
    simp [Queue.reportN, h, h0, h3, Queue.doubted, Queue.advance, agedPast]

/-- The reported N in REBUILD (R119). -/
def rebuiltN (q : Queue) (r : Report) : Queue := if r.copyState = .rebuild then q else q.raiseTo r.n

theorem rebuiltN_eq (q : Queue) (r : Report) : rebuiltN q r = { q with
    n := if r.copyState ≠ .rebuild ∧ (q.nSet = false ∨ (1 ≤ serialDistance r.n q.n ∧ serialDistance r.n q.n ≤ 127))
      then r.n else q.n
    nSet := q.nSet || decide (r.copyState ≠ .rebuild) } := by
  unfold rebuiltN
  by_cases h : r.copyState = .rebuild
  · simp [h]
  · rw [if_neg h, raiseTo_eq]
    simp [h]

theorem reportRebuilds_holds (q : Queue) (x : Terms) (j : Station) (r : Report) (hq : q.state = .rebuild) :
    reportRebuilds q x j r := by
  unfold reportRebuilds
  extract_lets used v set
  have hn := rebuiltN_eq q r
  have hv : (rebuiltN q r).n = v := by rw [hn]
  have hentries : (rebuiltN q r).entries = q.entries := by rw [hn]
  have hset : (rebuiltN q r).nSet = false ↔ ¬ set := by
    rw [hn]; show (q.nSet || decide (r.copyState ≠ .rebuild)) = false ↔ ¬ (q.nSet = true ∨ r.copyState ≠ .rebuild)
    simp
  have hentry : entryOf (rebuiltN q r) j = entryOf q j := by simp only [entryOf, hentries]
  have hreport : q.report x j r =
      if r.entryPresent then
        match entryOf q j with
        | none => Queue.raisePast { rebuiltN q r with entries := q.entries ++ [freshEntry j r.entrySerial] } r.entrySerial
        | some _ =>
          Queue.raisePast { rebuiltN q r with
            entries := q.entries.map (fun e => if e.station = j then { e with serial := r.entrySerial } else e) } r.entrySerial
      else (rebuiltN q r).drop j := by
    rw [← hentry, ← hentries]
    simp only [Queue.report, hq, if_true]
    rfl
  have hrest : (rebuiltN q r).state = .rebuild ∧ (rebuiltN q r).rebuild = q.rebuild ∧ (rebuiltN q r).confirm = q.confirm ∧
      (rebuiltN q r).stale = q.stale ∧ (rebuiltN q r).late = q.late := by
    rw [hn]; exact ⟨hq, rfl, rfl, rfl, rfl⟩
  rw [hreport]
  refine ⟨fun hp => ?_, fun hp => ⟨?_, ?_, fun he => ?_, fun he => ?_⟩, ?_⟩
  · rw [if_neg (by simp [hp])]
    exact ⟨hv, by simp [Queue.drop, withoutStation, hentries]⟩
  · rw [if_pos hp]
    split <;> simp only [raisePast_eq, hv, hset]
  · rw [if_pos hp]
    split <;> rw [raisePast_eq]
  · rw [if_pos hp, he]
    simp only [raisePast_eq]
    rfl
  · rw [if_pos hp]
    obtain ⟨e, he⟩ := Option.isSome_iff_exists.mp he
    rw [he]
    simp only [raisePast_eq]
  · split
    · split <;> simp only [raisePast_eq] <;> exact hrest
    · exact hrest

/-- An entry that a report places: N moves past a missed TAKE (R124). -/
theorem place_moving {q : Queue} {x : Terms} {e : Entry} (h : serialDistance e.serial q.n ≤ x.ahead) :
    q.place x e = Queue.doubted { q.advance (e.serial + 1) with
      entries := placeEntry (e.serial + 1) e (q.advance (e.serial + 1)).entries } := by
  have h1 : serialDistance (e.serial + 1) e.serial = 1 := serialDistance_succ _
  have h2 : ¬ 240 ≤ serialDistance (q.advance (e.serial + 1)).n e.serial := by
    rw [show (q.advance (e.serial + 1)).n = e.serial + 1 from rfl, h1]; decide
  simp only [Queue.place, h, if_true]
  rw [if_neg h2]
  rfl

theorem place_standing {q : Queue} {x : Terms} {e : Entry} (h : ¬ serialDistance e.serial q.n ≤ x.ahead)
    (h2 : serialDistance q.n e.serial < 240) :
    q.place x e = Queue.doubted { q with entries := placeEntry q.n e q.entries } := by
  simp [Queue.place, h, Nat.not_le.mpr h2]

theorem place_gone {q : Queue} {x : Terms} {e : Entry} (h : ¬ serialDistance e.serial q.n ≤ x.ahead)
    (h2 : ¬ serialDistance q.n e.serial < 240) : q.place x e = (q.drop e.station).doubted := by
  simp [Queue.place, h, Nat.not_lt.mp h2]

/-- An entry placed near N stands, and the copy is UNSURE. -/
theorem place_near {q : Queue} {x : Terms} {e : Entry}
    (h : serialDistance e.serial q.n ≤ x.ahead ∨ serialDistance q.n e.serial < 240) :
    entryOf (q.place x e) e.station = some e ∧ (q.place x e).state = .unsure ∧ (q.place x e).confirm = 2 := by
  by_cases h1 : serialDistance e.serial q.n ≤ x.ahead
  · rw [place_moving h1]; exact ⟨entryIn_place_self _ _ _, rfl, rfl⟩
  · rw [place_standing h1 (h.resolve_left h1)]; exact ⟨entryIn_place_self _ _ _, rfl, rfl⟩

/-- The entries of the other stations when an entry is placed. -/
theorem place_other {q : Queue} (hq : q.single) {x : Terms} {e : Entry} {k : Station} (hk : k ≠ e.station) :
    (serialDistance e.serial q.n ≤ x.ahead → entryOf (q.place x e) k = (entryOf q k).filter (fun y =>
      decide (serialDistance q.n y.serial + serialDistance (e.serial + 1) q.n < 240))) ∧
    (¬ serialDistance e.serial q.n ≤ x.ahead → entryOf (q.place x e) k = entryOf q k) := by
  refine ⟨fun h => ?_, fun h => ?_⟩
  · rw [place_moving h]
    exact (entryIn_place_other hk _).trans (entryOf_advance hq _ k)
  · by_cases h2 : serialDistance q.n e.serial < 240
    · rw [place_standing h h2]
      exact entryIn_place_other hk _
    · rw [place_gone h h2]
      exact entryOf_drop_other q hk

theorem reportEntry_absent {q : Queue} {x : Terms} {j : Station} {r : Report} (h : r.entryPresent = false) :
    (entryOf q j = none → q.reportEntry x j r = q) ∧
    ((entryOf q j).isSome = true → q.reportEntry x j r = (q.drop j).doubted) := by
  refine ⟨fun he => by simp [Queue.reportEntry, h, he], fun he => ?_⟩
  obtain ⟨e, he⟩ := Option.isSome_iff_exists.mp he
  simp [Queue.reportEntry, h, he]

/-- The entry that a report of another serial places: the sender's own with its hold, or a fresh one. -/
def reportedEntry (q : Queue) (j : Station) (r : Report) : Entry :=
  match entryOf q j with
  | none => freshEntry j r.entrySerial
  | some e => { e with serial := r.entrySerial, shadow := none }

theorem reportedEntry_serial (q : Queue) (j : Station) (r : Report) : (reportedEntry q j r).serial = r.entrySerial := by
  unfold reportedEntry; split <;> rfl

theorem reportedEntry_station (q : Queue) (j : Station) (r : Report) : (reportedEntry q j r).station = j := by
  unfold reportedEntry
  split
  · rfl
  · rename_i e he; exact (entryIn_station he : e.station = j)

theorem reportEntry_moved {q : Queue} {x : Terms} {j : Station} {r : Report} (h : r.entryPresent = true)
    (hne : ∀ e, entryOf q j = some e → e.serial ≠ r.entrySerial) :
    q.reportEntry x j r = q.place x (reportedEntry q j r) := by
  unfold reportedEntry Queue.reportEntry
  rw [if_pos h]
  cases he : entryOf q j with
  | none => rfl
  | some e => exact if_neg (hne e he)

theorem reportEntry_same {q : Queue} {x : Terms} {j : Station} {r : Report} {e : Entry} (h : r.entryPresent = true)
    (he : entryOf q j = some e) (hs : e.serial = r.entrySerial) : q.reportEntry x j r = { q with
      entries := q.entries.map (fun y => if y.station = j then { y with shadow := none } else y) } := by
  simp [Queue.reportEntry, h, he, hs]

/-- The mark of a SHADOW entry taken off by its station's report. -/
theorem entryIn_unshadowed (l : List Entry) (j k : Station) :
    entryIn (l.map (fun y => if y.station = j then { y with shadow := none } else y)) k =
      (entryIn l k).map (fun y => if y.station = j then { y with shadow := none } else y) :=
  entryIn_map (fun e => by split <;> rfl) l k

/-- Settles O18. -/
theorem reportCorrectsTheCopy : Obligations.ReportCorrectsTheCopy := by
  refine ⟨reportedN_holds, reportRebuilds_holds, fun q x j r hq => ?_⟩
  intro p near moves
  have hreport : q.report x j r = p.reportEntry x j r := by simp [Queue.report, hq, p]
  have hserial := reportedEntry_serial p j r
  have hstation := reportedEntry_station p j r
  rw [hreport]
  refine ⟨fun hsingle k hk => ?_, fun hp => ⟨?_, fun he => ?_, (reportEntry_absent hp).1⟩, fun hp => ⟨fun he hn => ?_, fun e he hs => ?_,
    fun e he hs hn => ?_, fun hne => ⟨fun hd => ?_, fun hn => ?_⟩⟩⟩
  · have hp : p.single := (q.keeps_reportN x r hq).single hsingle
    refine ⟨fun ⟨h1, h2, h3⟩ => ?_, fun hm => ?_⟩
    · rw [reportEntry_moved h1 h2, ← hserial]
      exact (place_other hp (by rw [hstation]; exact hk)).1 (by rw [hserial]; exact h3)
    · cases h1 : r.entryPresent with
      | false =>
        cases he : entryOf p j with
        | none => rw [(reportEntry_absent h1).1 he]
        | some e =>
          rw [(reportEntry_absent h1).2 (by rw [he]; rfl)]
          exact entryOf_drop_other p hk
      | true =>
        by_cases h2 : ∀ e, entryOf p j = some e → e.serial ≠ r.entrySerial
        · rw [reportEntry_moved h1 h2]
          exact (place_other hp (by rw [hstation]; exact hk)).2 (by rw [hserial]; exact fun h3 => hm ⟨h1, h2, h3⟩)
        · push Not at h2
          obtain ⟨e, he, hs⟩ := h2
          rw [reportEntry_same h1 he hs]
          refine (entryIn_unshadowed _ j k).trans ?_
          rw [entryOf_eq]
          cases hx : entryIn p.entries k with
          | none => rfl
          | some y =>
            have : y.station ≠ j := by rw [entryIn_station hx]; exact hk
            simp [this]
  · cases he : entryOf p j with
    | none => rw [(reportEntry_absent hp).1 he, he]
    | some e =>
      rw [(reportEntry_absent hp).2 (by rw [he]; rfl)]
      exact entryOf_drop_self p j
  · rw [(reportEntry_absent hp).2 he]
    exact ⟨rfl, rfl⟩
  · rw [reportEntry_moved hp (fun e h => by rw [he] at h; cases h)]
    have hent : reportedEntry p j r = freshEntry j r.entrySerial := by simp [reportedEntry, he]
    rw [hent]
    exact place_near (e := freshEntry j r.entrySerial) hn
  · rw [reportEntry_same hp he hs]
    refine ⟨(entryIn_unshadowed _ j j).trans ?_, rfl, rfl⟩
    rw [entryOf_eq] at he
    simp [he, entryIn_station he]
  · rw [reportEntry_moved hp (fun e' h => by rw [he] at h; cases h; exact hs)]
    have hent : reportedEntry p j r = { e with serial := r.entrySerial, shadow := none } := by simp [reportedEntry, he]
    rw [hent] at hstation ⊢
    have := place_near (x := x) (e := { e with serial := r.entrySerial, shadow := none }) hn
    rw [show e.station = j from hstation] at this ⊢
    exact this
  · rw [reportEntry_moved hp hne, place_moving (by rw [hserial]; exact hd), hserial]
    rfl
  · have hn' := not_or.mp hn
    rw [reportEntry_moved hp hne, place_gone (by rw [hserial]; exact hn'.1) (by rw [hserial]; exact hn'.2), hstation]
    rfl

end Sys2Proof.Machine
end

section
/-! SUPPORT. The completion of an own frame, content by content: the statement O13. -/

namespace Sys2Proof.Machine

-- One proof after the other, so that the check of the whole text stays within its limit of threads.
set_option Elab.async false

/-- What the own TAKE brings before its event ends (R121, R133). -/
def ownTaken (own : Station) (v : Byte) (s : State) : State :=
  entryAppeared { queueTake own v s with own := { (queueTake own v s).own with outstanding := false } }

/-- What an own frame brings before its event ends, with no restart waiting (R14, R119, R121, R123). -/
def ownDelivered (own : Station) (f : Sending) (s : State) : State :=
  match f.content with
  | .give v => startReTake { queueGive own v s with own := { s.own with leaving := none } }
  | .take v => ownTaken own v s
  | .status r => { s with peers := { s.peers with ownReport := some r } }
  | .termsQuery => { s with join := { s.join with querySent := true } }
  | .termsSet _ => s
  | .test seed => runSent f.counted (tallyTest own (testPattern seed) s)

theorem deliverOwn_settles {s : State} (own : Station) (f : Sending) (hw : s.panel.restartWait = none) :
    deliverOwn own f s = settle (ownDelivered own f s) := by
  cases hc : f.content with
  | give v =>
    simp only [deliverOwn, ownDelivered, hc, ownGiveSent]
    exact if_neg (by simp [startReTake, queueGive, hw])
  | _ => simp only [deliverOwn, ownDelivered, hc, ownTakeSent, ownTaken]

/-- Of the contents the GIVE alone looks at a restart that waits. -/
theorem deliverOwn_settles_other {s : State} (own : Station) {f : Sending} (hf : ∀ v, f.content ≠ .give v) :
    deliverOwn own f s = settle (ownDelivered own f s) := by
  cases hc : f.content with
  | give v => exact absurd hc (hf v)
  | _ => simp only [deliverOwn, ownDelivered, hc, ownTakeSent, ownTaken]

/-! ### What a TAKE leaves of the stack share and of STACK_CUT -/

theorem queueTake_stack (j : Station) (v : Byte) (s : State) : (queueTake j v s).stack = s.stack := by
  unfold queueTake
  split
  · rfl
  · split
    · rw [lockout_eq]; rfl
    · rfl

theorem queueTake_cut (j : Station) (v : Byte) (s : State) : raised .stackCut (queueTake j v s) = raised .stackCut s := by
  unfold queueTake
  split
  · rfl
  · split
    · rw [lockout_eq]; exact raised_raise_other (by decide) _
    · rfl

theorem requestTest_line (s : State) : (requestTest s).line = { s.line with run := (requestTest s).line.run } ∧
    (requestTest s).stack = s.stack ∧ (requestTest s).peers = s.peers ∧ (requestTest s).join = s.join ∧
    (requestTest s).queue = s.queue ∧ (requestTest s).events = s.events := by
  unfold requestTest; split <;> exact ⟨rfl, rfl, rfl, rfl, rfl, rfl⟩

theorem runSent_line (counted : Bool) (s : State) : (runSent counted s).line = { s.line with run := (runSent counted s).line.run } ∧
    (runSent counted s).stack = s.stack ∧ (runSent counted s).peers = s.peers ∧ (runSent counted s).join = s.join ∧
    (runSent counted s).queue = s.queue ∧ (runSent counted s).events = s.events := by
  unfold runSent
  split
  · exact ⟨rfl, rfl, rfl, rfl, rfl, rfl⟩
  · split
    · exact ⟨rfl, rfl, rfl, rfl, rfl, rfl⟩
    · split
      · exact ⟨rfl, rfl, rfl, rfl, rfl, rfl⟩
      · obtain ⟨hline, hrest⟩ := requestTest_line
          { s with line := { s.line with run := some { ‹TestRun› with remaining := ‹TestRun›.remaining - 1 } } }
        exact ⟨by rw [hline], hrest⟩

/-- What an own frame leaves of the line, and of what an evaluation reads. -/
structure OwnKept (s u : State) : Prop where
  line : u.line = { s.line with tally := u.line.tally, run := u.line.run } := by rfl
  stack : u.stack = s.stack := by rfl
  terms : u.join.terms = s.join.terms := by rfl
  records : u.peers.records = s.peers.records := by rfl
  cut : raised .stackCut u = raised .stackCut s := by rfl
  cap : capFormed s → capFormed u

theorem ownDelivered_kept (own : Station) (f : Sending) (s : State) : OwnKept s (ownDelivered own f s) := by
  unfold ownDelivered
  split
  · exact { cap := capFormed_congr rfl rfl rfl rfl }
  · rename_i v _
    have hfree := entryAppeared_free (m := {}) { queueTake own v s with own := { (queueTake own v s).own with outstanding := false } }
    unfold ownTaken
    refine { line := ?_, stack := ?_, terms := ?_, records := ?_, cut := ?_, cap := fun h => ?_ }
    · simp
    · rw [hfree.stack]; exact queueTake_stack own v s
    · simp
    · simp
    · simp only [raised, entryAppeared_events]; exact queueTake_cut own v s
    · exact capFormed_congr (by simp) (by simp) (by simp) (hfree.stack.trans (queueTake_stack own v s)) h
  · exact { cap := capFormed_of_reports rfl rfl rfl rfl rfl }
  · exact { cap := id }
  · exact { cap := id }
  · rename_i x _
    obtain ⟨hline, hstack, hpeers, hjoin, _, hevents⟩ := runSent_line f.counted (tallyTest own (testPattern x) s)
    exact { line := by rw [hline]; rfl
            stack := hstack
            terms := by rw [hjoin]; rfl
            records := by rw [hpeers]; rfl
            cut := by unfold raised; rw [hevents]; rfl
            cap := ((tallyTest_moves (m := {}) own _ s).trans (runSent_moves f.counted _)).cap }

/-- The state in which a completed own frame finds its owners: the driver released, the frame heard. -/
def ownHeard (own : Station) (s : State) : State := heard own { s with line := { s.line with sending := none } }

theorem ownHeard_line (own : Station) (s : State) : (ownHeard own s).line =
    { s.line with sending := none, lastSender := own, idle := false, slotTime := none, errors := s.line.errors - 1
                  condition := if s.line.condition = .doubt ∧ s.line.errors ≤ 1 then .clear else s.line.condition } :=
  heard_line own _

@[simp] theorem ownHeard_peers (own : Station) (s : State) : (ownHeard own s).peers = s.peers := heard_peers own _
@[simp] theorem ownHeard_queue (own : Station) (s : State) : (ownHeard own s).queue = s.queue := heard_queue own _
@[simp] theorem ownHeard_join (own : Station) (s : State) : (ownHeard own s).join = s.join := heard_join own _
@[simp] theorem ownHeard_clock (own : Station) (s : State) : (ownHeard own s).clock = s.clock := heard_clock own _
@[simp] theorem ownHeard_panel (own : Station) (s : State) : (ownHeard own s).panel = s.panel := heard_panel own _

theorem ownHeard_atLine {s : State} (own : Station) (hc : s.line.condition = .doubt) (he : s.line.errors ≤ 1) :
    evaluatedAtLine s (ownHeard own s) := by
  unfold ownHeard
  rw [heard_eq, if_pos ⟨hc, he⟩]
  exact evaluate_atLine rfl rfl rfl

theorem ownKept_atLine {s u v : State} (h : OwnKept u v) (hs : evaluatedAtLine s u) : evaluatedAtLine s v :=
  evaluatedAtLine_congr hs (h.cap hs.1) h.terms h.records (by rw [h.stack]) h.cut

/-! ### The own place after its TAKE or GIVE (R123, R133) -/

theorem ownEntry_eq {s : State} {own : Station} (h : ownNumber s = some own) : ownEntry s = entryOf s.queue own := by
  have hdecide : ∀ e : Entry, isOwn s e.station = decide (e.station = own) := fun e => by simp [isOwn, h, eq_comm]
  simp only [ownEntry, entryOf, hdecide]

theorem ownEntry_congr {s t : State} (hq : t.queue = s.queue) (hj : t.join = s.join) : ownEntry t = ownEntry s := by
  simp [ownEntry, isOwn, ownNumber, hq, hj]

/-- With no own entry no give-up leaves a serial. -/
theorem ofPlace_noEntry : OfPlace (fun u => ownEntry u = none ∧ u.own.leaving = none) where
  congr u v _ _ hl _ hj hq _ h := by rw [ownEntry_congr hq hj, hl]; exact h
  give u h := by
    have hreq : (requestGive u).own.leaving = none := by unfold requestGive; split <;> [exact h.2; rfl]
    refine ⟨by rw [ownEntry_congr (s := u) (by simp) (by simp)]; exact h.1, ?_⟩
    unfold giveUp
    rw [h.1]
    split
    · exact h.2
    · split
      · exact hreq
      · exact h.2
  take u h := by
    refine ⟨by rw [ownEntry_congr (s := u) (by simp) (by simp)]; exact h.1, ?_⟩
    unfold requestTake; split <;> exact h.2

/-- With an own entry in the copy no request for a place is made (R107). -/
theorem ofPlace_entered : OfPlace (fun u => (ownEntry u).isSome = true ∧ u.own.outstanding = false) where
  congr u v _ ho _ _ hj hq _ h := by rw [ownEntry_congr hq hj, ho]; exact h
  give u h := ⟨by rw [ownEntry_congr (s := u) (by simp) (by simp)]; exact h.1, giveUp_outstanding h.2⟩
  take u h := by
    obtain ⟨e, he⟩ := Option.isSome_iff_exists.mp h.1
    have hw : wantsTake u = false := by simp [wantsTake, he]
    simpa [requestTake, hw] using h

/-- After the own TAKE the place is not outstanding any more. -/
theorem ownTake_outstanding {s : State} {own : Station} {v : Byte} {e : Entry} (ho : ownNumber s = some own)
    (he : entryOf (queueTake own v s).queue own = some e) :
    (settle (ownTaken own v s)).own.outstanding = false := by
  have hown : ownNumber (queueTake own v s) = some own := by simpa [ownNumber] using ho
  have hentry : (ownEntry (queueTake own v s)).isSome = true := by rw [ownEntry_eq hown, he]; rfl
  refine (ofPlace_entered.settle ⟨?_, ?_⟩).2
  · rw [ownEntry_congr (s := queueTake own v s) (by simp [ownTaken]) (by simp [ownTaken])]; exact hentry
  · unfold ownTaken entryAppeared
    split
    · exact giveUp_outstanding rfl
    · rfl

/-! ### The run (R23) -/

theorem runSent_uncounted (s : State) : runSent false s = s := by unfold runSent; split <;> rfl

theorem runSent_last {s : State} {r : TestRun} (h : s.line.run = some r) (hr : r.remaining ≤ 1) :
    runSent true s = { s with line := { s.line with run := none } } := by simp [runSent, h, hr]

theorem runSent_next {s : State} {r : TestRun} (h : s.line.run = some r) (hr : 1 < r.remaining)
    (hj : s.join.membership = .joined) (hc : s.line.condition = .clear) : runSent true s =
      { s with line := { s.line with run := some { r with remaining := r.remaining - 1 } }, out := { s.out with test := true } } := by
  simp [runSent, h, Nat.not_le.mpr hr, requestTest, permitted, hj, hc]

/-- The own TAKE completed: the copy takes it, and besides it and the own place no block reads it. -/
theorem ownTake_sent {own : Station} {f : Sending} {s : State} {v : Byte} {q : Queue} (hc : f.content = .take v)
    (hq : (queueTake own v (ownHeard own s)).queue = q) (ho : ownNumber s = some own)
    (hentry : entryOf q own = some { station := own, serial := v, shadow := none, hold := 0 }) :
    (settle (ownDelivered own f (ownHeard own s))).queue = q ∧
    (settle (ownDelivered own f (ownHeard own s))).peers = s.peers ∧
    (settle (ownDelivered own f (ownHeard own s))).own.outstanding = false := by
  have hown : ownNumber (ownHeard own s) = some own := by simpa [ownNumber] using ho
  have hout := ownTake_outstanding (s := ownHeard own s) (v := v) hown (by rw [hq]; exact hentry)
  have hsent : ownDelivered own f (ownHeard own s) = ownTaken own v (ownHeard own s) := by unfold ownDelivered; rw [hc]
  rw [hsent]
  refine ⟨?_, ?_, hout⟩
  · rw [settle_queue, ownTaken, entryAppeared_queue]; exact hq
  · simp [ownTaken]

/-- Settles O13. -/
theorem ownFrameCompletes : Obligations.OwnFrameCompletes := by
  intro s own f hp ho hf
  have hexec : exec .ownFrameComplete s = .next (deliverOwn own f (ownHeard own s)) :=
    (live_running hp _).trans (congrArg _ (completeFrame_own ho hf))
  have hother : (∀ v, f.content ≠ .give v) → exec .ownFrameComplete s = .next (settle (ownDelivered own f (ownHeard own s))) :=
    fun h => hexec.trans (congrArg _ (deliverOwn_settles_other own h))
  have hkept := ownDelivered_kept own f (ownHeard own s)
  have hline := hkept.line
  rw [ownHeard_line] at hline
  have hsending : (settle (ownDelivered own f (ownHeard own s))).line.sending = none := by rw [settle_line, hline]
  have hown : ownNumber (ownHeard own s) = some own := by simpa [ownNumber] using ho
  refine ⟨fun hw => ?_, fun r hc => ?_, fun hc => ?_, fun x hc => ?_, fun x hc => ?_, fun v hc hw => ?_, fun hc hq => ?_,
    fun v hc hq => ?_⟩
  · refine ⟨_, hexec.trans (congrArg _ (deliverOwn_settles own f (by simpa using hw))), ?_⟩
    rw [settle_line, hline]
    exact ⟨rfl, rfl, rfl, rfl, rfl, fun h1 h2 => evaluatedAtLine_settle (ownKept_atLine hkept (ownHeard_atLine own h1 h2))⟩
  · refine ⟨_, hother (by simp [hc]), hsending, ?_⟩
    simp only [ownDelivered, hc]
    simp [ownHeard_line]
  · refine ⟨_, hother (by simp [hc]), hsending, ?_⟩
    simp only [ownDelivered, hc]
    simp
  · refine ⟨_, hother (by simp [hc]), hsending, ?_⟩
    simp only [ownDelivered, hc]
    simp
  · refine ⟨_, hother (by simp [hc]), hsending, ?_⟩
    have hsent : ownDelivered own f (ownHeard own s) = runSent f.counted (tallyTest own (testPattern x) (ownHeard own s)) := by
      simp only [ownDelivered, hc]
    obtain ⟨hl, _, hpeers, _, hqueue, _⟩ := runSent_line f.counted (tallyTest own (testPattern x) (ownHeard own s))
    rw [hsent]
    refine ⟨?_, fun r hr hcount hrem => ?_, fun r hr hcount hrem hj hcond => ?_, fun hcount => ?_, ?_, ?_⟩
    · rw [settle_line, hl]; simp [tallyTest, ownHeard_line]
    · rw [hcount, runSent_last (r := r) (by simp [tallyTest, ownHeard_line, hr]) hrem]; simp
    · rw [hcount, runSent_next (r := r) (by simp [tallyTest, ownHeard_line, hr]) hrem (by simp [tallyTest, hj])
        (by simp [tallyTest, ownHeard_line, hcond])]
      simp
    · rw [hcount, runSent_uncounted]; simp [tallyTest, ownHeard_line]
    · rw [settle_peers, hpeers]; simp [tallyTest]
    · rw [settle_queue, hqueue]; simp [tallyTest]
  · refine ⟨_, hexec.trans (congrArg _ (deliverOwn_settles own f (by simpa using hw))), hsending, ?_⟩
    simp only [ownDelivered, hc]
    refine ⟨by simp [startReTake, queueGive], ?_, by simp [startReTake, reTakeTicks], by simp [startReTake, queueGive]⟩
    refine (ofPlace_noEntry.settle ⟨?_, rfl⟩).2
    rw [ownEntry_eq (own := own) (by exact hown)]
    exact entryOf_give _ own v
  · refine ⟨_, hother (by simp [hc]), hsending, ?_⟩
    have h0 : serialDistance s.queue.n s.queue.n = 0 := serialDistance_self _
    have hnear : serialDistance s.queue.n s.queue.n ≤ s.join.terms.ahead := by rw [h0]; exact Nat.zero_le _
    have htake : (queueTake own s.queue.n (ownHeard own s)).queue =
        if (entryOf s.queue own).isSome = true then (s.queue.accept own s.queue.n).doubted else s.queue.accept own s.queue.n := by
      rw [queueTake_near (by simpa using hq) (by simp [takeBand_far_iff, h0])]
      simp [takeNear_near, h0]
    have hentry : entryOf (if (entryOf s.queue own).isSome = true then (s.queue.accept own s.queue.n).doubted
        else s.queue.accept own s.queue.n) own = some { station := own, serial := s.queue.n, shadow := none, hold := 0 } := by
      split <;> exact accept_entryOf _ _ _
    obtain ⟨hqueue, hpeers, hout⟩ := ownTake_sent hc htake ho hentry
    rw [hqueue, hpeers]
    refine ⟨by split <;> rfl, fun h => by rw [h, if_neg (by simp)]; exact ⟨rfl, rfl⟩, fun h => by rw [if_pos h]; exact ⟨rfl, rfl⟩,
      fun hsingle k hk => ?_, by split <;> rfl, by split <;> rfl, hout, hentry, rfl⟩
    have haccept := entryOf_accept_other (q := s.queue) hsingle hk s.queue.n
    rw [show serialDistance (s.queue.n + 1) s.queue.n = 1 from serialDistance_succ _] at haccept
    split <;> exact haccept
  · refine ⟨_, hother (by simp [hc]), hsending, ?_⟩
    have htake : (queueTake own v (ownHeard own s)).queue = s.queue.collect own v := by
      rw [queueTake_rebuild (by simpa using hq)]; simp
    obtain ⟨hqueue, hpeers, hout⟩ := ownTake_sent hc htake ho (entryOf_collect _ _ _)
    exact ⟨hout, hqueue.trans (collect_eq _ _ _), hpeers⟩

end Sys2Proof.Machine
end

section
/-! SUPPORT. TERMS and TEST frames, and a STATUS through the blocks that take it: the statements O17, O20 and O21. -/

namespace Sys2Proof.Machine

-- One proof after the other, so that the check of the whole text stays within its limit of threads.
set_option Elab.async false

/-! ### TERMS frames (R50 to R52) -/

theorem exec_taken {s : State} {j : Station} {c : Instr} {deliver : State → State} (hc : exec c s = live s (takeFrame j deliver))
    (hp : s.power = .running) (hr : canReceive s = true) (ho : ownNumber s ≠ some j) :
    exec c s = .next (settle (deliver (heard j s))) :=
  hc.trans ((live_running hp _).trans (congrArg _ (takeFrame_peer deliver hr ho)))

theorem requestTerms_terms (s : State) :
    (requestTerms s).out.terms = if permitted s .set then some .set else s.out.terms := by
  unfold requestTerms; split <;> rfl

theorem answerQuery_rest (s : State) : (answerQuery s).join = s.join ∧ (answerQuery s).peers = s.peers ∧
    (answerQuery s).queue = s.queue :=
  have h := answerQuery_free (m := {}) s
  ⟨h.join, h.peers, h.queue⟩

/-- In JOINED a set may be sent on a line that is neither STUCK nor MUTED (R21). -/
theorem permitted_set {s : State} (h : s.join.membership = .joined) :
    permitted s .set = true ↔ s.line.condition = .clear ∨ s.line.condition = .doubt := by
  unfold permitted
  rw [h]
  cases s.line.condition <;> simp

/-- A valid frame leaves the line within CLEAR and DOUBT, or within STUCK and MUTED. -/
theorem heard_sends (j : Station) (s : State) :
    ((heard j s).line.condition = .clear ∨ (heard j s).line.condition = .doubt) ↔
      (s.line.condition = .clear ∨ s.line.condition = .doubt) := by
  rw [heard_line]
  by_cases h : s.line.condition = .doubt ∧ s.line.errors ≤ 1
  · simp [h]
  · simp [h]

theorem answerQuery_joined {s : State} (h : s.join.membership = .joined) :
    (answerQuery s).out.terms =
      if s.line.condition = .clear ∨ s.line.condition = .doubt then some .set else s.out.terms := by
  simp only [answerQuery, h, if_true, requestTerms_terms, permitted_set h]

theorem deliverTerms_none {p : TermsBytes} (h : decodeTerms p = none) (j : Station) (s : State) : deliverTerms j p s = s := by
  unfold deliverTerms; rw [h]

theorem deliverTerms_joined {p : TermsBytes} {x : Terms} {s : State} (h : decodeTerms p = some x) (hm : s.join.membership = .joined)
    (j : Station) : deliverTerms j p s =
      if s.out.terms = some .set ∧ x.version = s.join.terms.version then { s with out := { s.out with terms := none } } else s := by
  unfold deliverTerms; rw [h]; simp only [hm, Bool.and_eq_true, decide_eq_true_eq]

theorem deliverTerms_listen {p : TermsBytes} {x : Terms} {s : State} (h : decodeTerms p = some x) (hm : s.join.membership = .listen)
    (j : Station) : deliverTerms j p s = { s with join := { s.join with best := some (heardSet s.join.best j x) } } := by
  unfold deliverTerms; rw [h]; simp only [hm]

theorem deliverTerms_peers (j : Station) (p : TermsBytes) (s : State) : (deliverTerms j p s).peers = s.peers := by
  unfold deliverTerms; (repeat' split) <;> rfl

theorem deliverTerms_queue (j : Station) (p : TermsBytes) (s : State) : (deliverTerms j p s).queue = s.queue := by
  unfold deliverTerms; (repeat' split) <;> rfl

theorem newerVersion_self (a : Byte) : newerVersion a a = false := by
  by_cases h : a = 0 <;> simp [newerVersion, h, serialDistance]

/-- Settles O20. -/
theorem termsFramesTaken : Obligations.TermsFramesTaken := by
  intro s j p hp hr ho
  have hquery : exec (.termsQueryTaken j) s = .next (settle (answerQuery (heard j s))) := exec_taken rfl hp hr ho
  have hset : exec (.termsSetTaken j p) s = .next (settle (deliverTerms j p (heard j s))) := exec_taken rfl hp hr ho
  obtain ⟨hjoin, hpeers, hqueue⟩ := answerQuery_rest (heard j s)
  have hsends := heard_sends j s
  refine ⟨fun hm hc => ⟨_, hquery, ?_⟩, fun hm hc => ⟨_, hquery, ?_⟩, fun hm => ⟨_, hquery, ?_⟩, _, hset, ?_⟩
  · rw [settle_out_terms, settle_join, settle_peers, settle_queue, answerQuery_joined (by simpa using hm), if_pos (hsends.mpr hc),
      hjoin, hpeers, hqueue]
    simp
  · have hn : ¬ (s.line.condition = .clear ∨ s.line.condition = .doubt) := by rcases hc with hc | hc <;> simp [hc]
    rw [settle_out_terms, settle_join, settle_peers, settle_queue, answerQuery_joined (by simpa using hm),
      if_neg (fun h => hn (hsends.mp h)), hjoin, hpeers, hqueue]
    simp
  · have hsame : answerQuery (heard j s) = heard j s := by simp [answerQuery, hm]
    rw [hsame]
    simp
  · rw [settle_peers, settle_queue, settle_join, settle_out_terms, deliverTerms_peers, deliverTerms_queue]
    refine ⟨by simp, by simp, fun hd => ?_, fun x hd hm => ?_, fun x hd hm => ?_⟩
    · rw [deliverTerms_none hd]; simp
    · rw [deliverTerms_joined hd (by simpa using hm)]
      refine ⟨by split <;> simp, fun h1 h2 => ?_, fun h => ?_⟩
      · rw [if_pos (by simp [h1, h2])]
      · rw [if_neg (by simp [h])]; simp
    · rw [deliverTerms_listen hd (by simpa using hm)]
      simp only [heard_join]
      refine ⟨fun hb => by simp [hb, heardSet], fun b hb => ⟨fun hn => ?_, fun he ha hl => ?_, fun he ha hl => ?_, fun he ha hl => ?_,
        fun he hn => ?_⟩⟩
      · simp [hb, heardSet, hn]
      · simp [hb, heardSet, he, ha, hl, newerVersion_self]
      · simp [hb, heardSet, he, ha, hl, newerVersion_self]
      · simp [hb, heardSet, he, ha, hl, newerVersion_self]
      · have hbest : some (heardSet s.join.best j x) = s.join.best := by simp [hb, heardSet, hn, he]
        rw [hbest]

/-! ### TEST frames (R23, R24) -/

theorem testPattern_at (seed : Byte) {i : Nat} (hi : i < 16) : (testPattern seed)[i]? = some (BitVec.ofNat 8 (seed.toNat + 37 * i)) := by
  simp [testPattern, hi, byteOf, BitVec.ofNat_add]

/-- A payload is the pattern of its byte 0 when each byte is. -/
theorem payload_pattern_iff (p : Vector Byte 16) :
    p.toList = testPattern (p.toList.headD 0) ↔ ∀ i : Fin 16, p.get i = BitVec.ofNat 8 ((p.get 0).toNat + 37 * i) := by
  have hhead : p.toList.headD 0 = p.get 0 := by
    rw [List.headD_eq_head?_getD, List.head?_eq_getElem?]
    simp [Vector.get]
  rw [hhead]
  constructor
  · intro h i
    have hi := testPattern_at (p.get 0) i.isLt
    rw [← h] at hi
    simpa [Vector.get] using hi
  · intro h
    refine List.ext_getElem? fun i => ?_
    by_cases hi : i < 16
    · rw [testPattern_at _ hi, ← h ⟨i, hi⟩]
      simp [Vector.get, hi]
    · rw [List.getElem?_eq_none (by simp; omega), List.getElem?_eq_none (by rw [testPattern_length]; omega)]

/-- Settles O21. -/
theorem testFramesTallied : Obligations.TestFramesTallied := by
  refine ⟨fun seed i hi => testPattern_at seed hi, ?_⟩
  intro s j p hp hr ho fresh
  refine ⟨_, exec_taken (deliver := tallyTest j p.toList) rfl hp hr ho, ?_⟩
  have htally : (settle (tallyTest j p.toList (heard j s))).line.tally = s.line.tally.take j p.toList := by
    simp [tallyTest, heard_line]
  have hbase : (if s.line.tally.sender = some j then s.line.tally else { sender := some j, received := 0, mismatched := 0 }) =
      { sender := some j, received := if fresh then 0 else s.line.tally.received,
        mismatched := if fresh then 0 else s.line.tally.mismatched } := by
    by_cases h : s.line.tally.sender = some j
    · have hf : ¬ fresh := fun hf => hf h
      rw [if_pos h, if_neg hf, if_neg hf, ← h]
    · have hf : fresh := h
      rw [if_neg h, if_pos hf, if_pos hf]
  rw [htally]
  simp only [Tally.take, hbase]
  refine ⟨trivial, trivial, fun h => if_pos ((payload_pattern_iff p).mpr h), fun ⟨i, hi⟩ =>
    if_neg fun h => hi ((payload_pattern_iff p).mp h i), ?_, ?_, ?_, ?_⟩ <;> simp [tallyTest]

end Sys2Proof.Machine
end

section
/-! SUPPORT. The backoff and the cap at an event that leaves the demand as it was, and a STATUS through the blocks that take it:
the statement O17. -/

namespace Sys2Proof.Machine

-- One proof after the other, so that the check of the whole text stays within its limit of threads.
set_option Elab.async false

/-! ### An event that leaves the demand (R83, R87) -/

theorem demandOf_congr {s t : State} (row : ClassRow) (hm : t.mode = s.mode) (hf : t.filters.supply.state = s.filters.supply.state)
    (hg : t.filters.extract.state = s.filters.extract.state) (hh : t.humid.state = s.humid.state) : demandOf row t = demandOf row s := by
  simp [demandOf, boosting, humidActive, anyOverdue, hm, hf, hg, hh]

theorem composeOnce_demand {s : State} {x : Straps} (hx : s.join.straps = some x) :
    (composeOnce s).stack.demand = demandOf (classRow x.fanClass) s := by
  rw [composeOnce_some hx _ rfl]
  exact answerDemand_demand s _

theorem compose_demand {s : State} {x : Straps} (hx : s.join.straps = some x) :
    (compose s).stack.demand = demandOf (classRow x.fanClass) s := by
  simp only [compose]
  split
  · exact composeOnce_demand hx
  · rw [composeOnce_demand (x := x) (by simpa using hx)]
    exact demandOf_congr _ (by simp) (by simp) (by simp) (by simp)

/-- A composition of the demand that is held leaves the backoff and the cap. -/
theorem compose_same {s : State} {x : Straps} (hx : s.join.straps = some x)
    (hd : demandOf (classRow x.fanClass) s = s.stack.demand) :
    (compose s).stack.demand = s.stack.demand ∧ (compose s).stack.backoff = s.stack.backoff ∧
      (compose s).stack.cap = s.stack.cap := by
  have hstack : answerDemand s (demandOf (classRow x.fanClass) s) = s.stack := if_pos hd
  have hdemand : (composeOnce s).stack.demand = s.stack.demand := (composeOnce_demand hx).trans hd
  have hcompose : compose s = composeOnce s := by simp [compose, hdemand]
  rw [hcompose, composeOnce_some hx _ rfl, hstack]
  exact ⟨rfl, rfl, rfl⟩

theorem noticeRound_demandOf (row : ClassRow) (s : State) :
    demandOf row (noticeStop (requestTake (noticeFan (noticeEligibility s)))) = demandOf row (noticeRound s) :=
  demandOf_congr row (by simp [noticeRound]) (by simp [noticeRound]) (by simp [noticeRound]) (by simp [noticeRound])

theorem noticeRound_same {s : State} {x : Straps} (hx : s.join.straps = some x)
    (hd : demandOf (classRow x.fanClass) (noticeRound s) = s.stack.demand) :
    (noticeRound s).stack.demand = s.stack.demand ∧ (noticeRound s).stack.backoff = s.stack.backoff ∧
      (noticeRound s).stack.cap = s.stack.cap := by
  have h := compose_same (s := noticeStop (requestTake (noticeFan (noticeEligibility s)))) (x := x) (by simpa using hx)
    (by rw [noticeRound_demandOf, hd]; simp)
  simpa [noticeRound] using h

/-- The first round tells the humidity monitor of STOP, and the rounds after it say the same (R147). -/
theorem noticeRound_humid_again (s : State) : (noticeRound (noticeRound s)).humid = (noticeRound s).humid := by
  by_cases h : s.frost.stage = .stop
  · rw [noticeRound_humid_stop ((noticeRound_stop s).mpr h), noticeRound_humid_stop h]
    rfl
  · rw [noticeRound_humid (fun e => h ((noticeRound_stop s).mp e)), noticeRound_humid h]

theorem noticeRound_demandOf_again (row : ClassRow) (s : State) :
    demandOf row (noticeRound (noticeRound s)) = demandOf row (noticeRound s) :=
  demandOf_congr row (by simp) (by simp) (by simp) (by rw [noticeRound_humid_again])

theorem settle_demandOf (row : ClassRow) (s : State) : demandOf row (settle s) = demandOf row (noticeRound s) := by
  have h : demandOf row (settle s) = demandOf row (noticeRound (noticeRound (noticeRound (noticeRound s)))) :=
    demandOf_congr row (by simp [settle]) (by simp [settle, followOutputs, followMarks])
      (by simp [settle, followOutputs, followMarks]) (by simp [settle])
  rw [h, noticeRound_demandOf_again, noticeRound_demandOf_again, noticeRound_demandOf_again]

/-- After an event the held demand is the one of the first three steps. -/
theorem settle_demand {s : State} {x : Straps} (hx : s.join.straps = some x) :
    (settle s).stack.demand = demandOf (classRow x.fanClass) (settle s) := by
  have h := settle_composed s
  unfold composed at h
  rw [← composeOnce_demand (by simpa using hx), h]

/-- An event whose composition finds the held demand checks no limit and forms no cap. -/
theorem settle_same {s : State} {x : Straps} (hx : s.join.straps = some x)
    (hd : demandOf (classRow x.fanClass) (settle s) = s.stack.demand) :
    (settle s).stack.backoff = s.stack.backoff ∧ (settle s).stack.cap = s.stack.cap := by
  rw [settle_demandOf] at hd
  obtain ⟨d1, b1, c1⟩ := noticeRound_same hx hd
  obtain ⟨d2, b2, c2⟩ := noticeRound_same (s := noticeRound s) (x := x) (by simpa using hx)
    (by rw [noticeRound_demandOf_again, d1, hd])
  obtain ⟨d3, b3, c3⟩ := noticeRound_same (s := noticeRound (noticeRound s)) (x := x) (by simpa using hx)
    (by rw [noticeRound_demandOf_again, noticeRound_demandOf_again, d2, d1, hd])
  obtain ⟨d4, b4, c4⟩ := noticeRound_same (s := noticeRound (noticeRound (noticeRound s))) (x := x) (by simpa using hx)
    (by rw [noticeRound_demandOf_again, noticeRound_demandOf_again, noticeRound_demandOf_again, d3, d2, d1, hd])
  simp only [settle, followOutputs_stack]
  exact ⟨by rw [b4, b3, b2, b1], by rw [c4, c3, c2, c1]⟩

/-- An evaluation that finds nothing, with the demand held. -/
theorem evaluate_same {s : State} {x : Straps} (hx : s.join.straps = some x)
    (hd : demandOf (classRow x.fanClass) s = s.stack.demand) (h : overLimit s = false) :
    (evaluate s).stack.demand = s.stack.demand ∧ (evaluate s).stack.backoff = s.stack.backoff := by
  simp only [evaluate, checkLimit_of_within h]
  split
  · exact ⟨rfl, rfl⟩
  · obtain ⟨hdemand, hbackoff, _⟩ := compose_same (s := formCap s) (x := x) hx
      ((demandOf_congr _ rfl rfl rfl rfl).trans hd)
    exact ⟨hdemand, hbackoff⟩

/-! ### The time source (R167) -/

/-- In an ascending list the first with a property is the least with it. -/
theorem find_ascending {l : List Station} (hl : l.Pairwise (· < ·)) (p : Station → Bool) (k : Station) :
    l.find? p = some k ↔ k ∈ l ∧ p k = true ∧ ∀ i ∈ l, i < k → p i = false := by
  induction l with
  | nil => simp
  | cons a l ih =>
    rw [List.pairwise_cons] at hl
    have ih := ih hl.2
    by_cases ha : p a = true
    · rw [List.find?_cons_of_pos ha]
      constructor
      · rintro ⟨⟩
        refine ⟨List.mem_cons_self, ha, fun i hi hlt => ?_⟩
        rcases List.mem_cons.mp hi with rfl | hi
        · exact absurd hlt (lt_irrefl _)
        · exact absurd (hl.1 i hi) (not_lt_of_gt hlt)
      · rintro ⟨hk, _, hmin⟩
        rcases List.mem_cons.mp hk with rfl | hk
        · rfl
        · rw [hmin a List.mem_cons_self (hl.1 k hk)] at ha; cases ha
    · rw [List.find?_cons_of_neg ha, ih]
      rw [Bool.not_eq_true] at ha
      constructor
      · rintro ⟨hk, hpk, hmin⟩
        refine ⟨List.mem_cons_of_mem _ hk, hpk, fun i hi hlt => ?_⟩
        rcases List.mem_cons.mp hi with rfl | hi
        · exact ha
        · exact hmin i hi hlt
      · rintro ⟨hk, hpk, hmin⟩
        rcases List.mem_cons.mp hk with rfl | hk
        · rw [ha] at hpk; cases hpk
        · exact ⟨hk, hpk, fun i hi => hmin i (List.mem_cons_of_mem _ hi)⟩

theorem allStations_ascending : allStations.Pairwise (· < ·) := by decide

theorem held_iff (r : PeerRecord) : r.held = true ↔ r.presence ≠ .absent := by simp [PeerRecord.held]

theorem sourceNow_some {s : State} {own k : Station} (h : ownNumber s = some own) :
    sourceNow s = some k ↔
      k < own ∧ (s.peers.records.get k).presence ≠ .absent ∧ ∀ i < k, (s.peers.records.get i).presence = .absent := by
  simp only [sourceNow, h]
  rw [find_ascending allStations_ascending]
  simp only [mem_allStations, true_and, Bool.and_eq_true, decide_eq_true_eq, held_iff, and_assoc, true_implies]
  refine and_congr_right fun hk => and_congr_right fun _ => forall_congr' fun i => imp_congr_right fun hi => ?_
  simp [PeerRecord.held, lt_trans hi hk]

theorem sourceNow_none {s : State} {own : Station} (h : ownNumber s = some own) :
    sourceNow s = none ↔ ∀ i < own, (s.peers.records.get i).presence = .absent := by
  simp [sourceNow, h, mem_allStations, PeerRecord.held]

theorem sourceNow_congr {s t : State} (hj : t.join.straps = s.join.straps) (hp : t.peers = s.peers) : sourceNow t = sourceNow s := by
  simp [sourceNow, ownNumber, hj, hp]

theorem setClock_source (time sub : Nat) (s : State) : (setClock time sub s).clock.source = s.clock.source := by
  unfold setClock
  dsimp only
  split
  · rfl
  · rw [evaluateMinute_clock]

/-- A report forms the source again, whatever it does to the time. -/
theorem clockReport_source (j : Station) (r : Report) (s : State) : (clockReport j r s).clock.source = sourceNow s := by
  unfold clockReport
  dsimp only
  split
  · split
    · rfl
    · split
      · split <;> rfl
      · rw [setClock_source]; rfl
  · rfl

/-! ### A STATUS through its consumers (R35, R55, R85, R152) -/

/-- A usable report in the record, in the copy, in the stack share unit and in the clock. -/
def reportTimed (j : Station) (r : Report) (s : State) : State :=
  clockReport j r (evaluate (queueReport j r (recordReport j r s)))

theorem deliverStatus_usable {p : StatusBytes} {r : Report} (h : decodeStatus p = some r) (j : Station) (s : State) :
    deliverStatus j p s = filterReport (evaluateSkew (reportTimed j r s)) := by
  unfold deliverStatus; rw [h]; rfl

theorem deliverStatus_unusable {p : StatusBytes} (h : decodeStatus p = none) (j : Station) (s : State) :
    deliverStatus j p s = { s with peers := { s.peers with unusable := min 255 (s.peers.unusable + 1) } } := by
  unfold deliverStatus; rw [h]

theorem evaluateSkew_changes {s : State} (hm : s.join.membership = .joined) (h : skewNow s ≠ s.join.skew) :
    evaluateSkew s = evaluate (raiseIf (skewNow s) .termsSkew { s with join := { s.join with skew := skewNow s } }) := by
  simp [evaluateSkew, hm, h]

theorem evaluateSkew_stays {s : State} (h : s.join.membership ≠ .joined ∨ skewNow s = s.join.skew) : evaluateSkew s = s := by
  rcases h with h | h <;> simp [evaluateSkew, h]

theorem evaluateSkew_join {s : State} : (evaluateSkew s).join =
    if s.join.membership = .joined then { s.join with skew := skewNow s } else s.join := by
  by_cases hm : s.join.membership = .joined
  · by_cases h : skewNow s = s.join.skew
    · rw [evaluateSkew_stays (.inr h), if_pos hm, h]
    · rw [evaluateSkew_changes hm h, if_pos hm]; simp
  · rw [evaluateSkew_stays (.inl hm), if_neg hm]

/-- An evaluation of the skew leaves of the state all but the join unit, the flags, the stack share and the plan. -/
theorem evaluateSkew_rest (s : State) : (evaluateSkew s).peers = s.peers ∧ (evaluateSkew s).queue = s.queue ∧
    (evaluateSkew s).clock = s.clock ∧ (evaluateSkew s).frost = s.frost ∧ (evaluateSkew s).filters = s.filters ∧
    (evaluateSkew s).mode = s.mode := by
  unfold evaluateSkew; split <;> simp

theorem evaluateSkew_keeps (g : EventFlag) {s : State} (h : raised g s = true) : raised g (evaluateSkew s) = true := by
  unfold evaluateSkew
  split
  · exact evaluate_keeps _ _ (raiseIf_keeps _ _ _ _ h)
  · exact h

theorem evaluateSkew_running {s : State} (h : s.stack.backoff ≠ 0) : (evaluateSkew s).stack.backoff = s.stack.backoff := by
  unfold evaluateSkew
  split
  · rw [evaluate_running (by rw [raiseIf_stack]; exact h), raiseIf_stack]
  · rfl

theorem skewNow_congr {s t : State} (hp : t.peers = s.peers) (ht : t.join.terms = s.join.terms) : skewNow t = skewNow s := by
  simp [skewNow, heldReports, hp, ht]

/-- The state of a filter formed reads the terms and the reports (R152, R157). -/
theorem formedState_congr {s t : State} (hp : t.peers = s.peers) (ht : t.join.terms = s.join.terms) (f : Filter) :
    formedState t f = formedState s f := by
  simp [formedState, groupDue, heldReports, presenceCount, hp, ht]

theorem setFilters_filters (s : State) (f : Filters) : (setFilters s f).filters = f := by simp [setFilters]

theorem formStates_filterOf (s : State) (d : Side) : filterOf (formStates s) d = (filterOf s d).formed (formedState s (filterOf s d)) := by
  cases d <;> simp [formStates, filterOf, setFilters_filters]

theorem setFilters_raised {s : State} {f : Filters} (h : newNotice s.filters f = true) : raised .filterNotice (setFilters s f) = true := by
  simp only [setFilters, raiseIf, h, if_true]
  exact raise_raised _ _

/-- The notice flag of a filter newly raised raises FILTER_NOTICE (R158). -/
theorem formStates_raised {s : State} {d : Side} (h : (filterOf s d).notice = false)
    (hf : (filterOf (formStates s) d).notice = true) : raised .filterNotice (formStates s) = true := by
  rw [formStates_filterOf] at hf
  refine setFilters_raised ?_
  cases d
  · simp only [filterOf] at h hf; simp [newNotice, h, hf]
  · simp only [filterOf] at h hf; simp [newNotice, h, hf]

theorem needsCare_iff (x : FilterState) : x.needsCare = true ↔ x = .due ∨ x = .overdue ∨ x = .unknown := by
  simp [FilterState.needsCare, or_assoc]

/-- The states formed at the end of an event whose later parts leave the filter records (R152, R158). -/
theorem statesFormed_of_formStates {s u t : State} (hs : ∀ d, filterOf u d = filterOf s d)
    (ht : ∀ d, filterOf t d = filterOf (formStates u) d) (hp : t.peers = u.peers) (hterms : t.join.terms = u.join.terms)
    (hr : raised .filterNotice (formStates u) = true → raised .filterNotice t = true) : statesFormed s t := by
  intro d
  extract_lets formed enters
  have hformed : formed = formedState u (filterOf u d) := by
    rw [hs]; exact formedState_congr hp hterms _
  have henters : ((filterOf s d).formed formed).notice = ((filterOf s d).notice || decide enters) := by
    simp [Filter.formed, enters, Bool.decide_and, FilterState.needsCare, Bool.or_assoc]
  refine ⟨?_, fun hn he => hr (formStates_raised (d := d) (by rw [hs]; exact hn) ?_)⟩
  · rw [ht, formStates_filterOf, ← hformed, hs, ← henters]
    rfl
  · rw [formStates_filterOf, ← hformed, hs, henters]
    simp [he]

/-- What a usable report leaves before its skew evaluation. -/
theorem reportTimed_rest (j : Station) (r : Report) (s : State) :
    (reportTimed j r s).peers = { s.peers with records := s.peers.records.set j { presence := .present, age := 0, fields := some r } } ∧
    (reportTimed j r s).queue = s.queue.report s.join.terms j r ∧ (reportTimed j r s).join = s.join ∧
    (reportTimed j r s).frost = s.frost ∧ (reportTimed j r s).filters = s.filters ∧
    (reportTimed j r s).stack = (evaluate (queueReport j r (recordReport j r s))).stack ∧
    (reportTimed j r s).events = (evaluate (queueReport j r (recordReport j r s))).events ∧
    (reportTimed j r s).line = s.line := by
  unfold reportTimed
  rw [clockReport_eq]
  simp [queueReport, recordReport]

theorem reportTimed_source (j : Station) (r : Report) (s : State) :
    (reportTimed j r s).clock.source = sourceNow (reportTimed j r s) := by
  have h : sourceNow (reportTimed j r s) = sourceNow (evaluate (queueReport j r (recordReport j r s))) := by
    unfold reportTimed
    rw [clockReport_eq]
    rfl
  rw [h]
  exact clockReport_source _ _ _

/-- The cap and the check of R84 and R85, as the clock leaves them. -/
theorem reportTimed_atLine {s u : State} (j : Station) (r : Report) (hstack : u.stack = s.stack) (hj : u.join = s.join)
    (hcut : raised .stackCut u = raised .stackCut s) : evaluatedAtLine s (reportTimed j r u) := by
  have h := evaluate_atLine (s := s) (u := queueReport j r (recordReport j r u)) hstack (congrArg Join.straps hj) hcut
  obtain ⟨hpeers, _, hjoin, _, _, hst, hev, hline⟩ := reportTimed_rest j r u
  refine evaluatedAtLine_congr h (capFormed_congr ?_ ?_ ?_ hst h.1) ?_ ?_ (by rw [hst]) (by simp only [raised, hev])
  · rw [hjoin]; simp [queueReport, recordReport]
  · rw [hline]; simp [queueReport, recordReport]
  · rw [hpeers]; simp [queueReport, recordReport]
  · rw [hjoin]; simp [queueReport, recordReport]
  · rw [hpeers]; simp [queueReport, recordReport]

/-- The end of a usable report's event. -/
def reportSettled (j : Station) (r : Report) (s : State) : State := settle (filterReport (evaluateSkew (reportTimed j r s)))

theorem reportSettled_rest (j : Station) (r : Report) (s : State) :
    (reportSettled j r s).peers = (reportTimed j r s).peers ∧ (reportSettled j r s).queue = (reportTimed j r s).queue ∧
    (reportSettled j r s).clock = (reportTimed j r s).clock ∧ (reportSettled j r s).frost.tLim = (reportTimed j r s).frost.tLim ∧
    (reportSettled j r s).join = (evaluateSkew (reportTimed j r s)).join ∧ (reportSettled j r s).line = (reportTimed j r s).line := by
  obtain ⟨hpeers, hqueue, hclock, hfrost, _, _⟩ := evaluateSkew_rest (reportTimed j r s)
  unfold reportSettled
  rw [filterReport_eq]
  simp [hpeers, hqueue, hclock, hfrost]

theorem filterReport_stack (s : State) : (filterReport s).stack = s.stack := by rw [filterReport_eq]
theorem filterReport_join (s : State) : (filterReport s).join = s.join := by rw [filterReport_eq]
theorem filterReport_peers (s : State) : (filterReport s).peers = s.peers := by rw [filterReport_eq]

theorem filterReport_keeps (g : EventFlag) {s : State} (h : raised g s = true) : raised g (filterReport s) = true :=
  (filterReport_free (m := {}) s).flags rfl g h

theorem reportSettled_keeps (g : EventFlag) (j : Station) (r : Report) {s : State} (h : raised g (reportTimed j r s) = true) :
    raised g (reportSettled j r s) = true :=
  settle_keeps _ _ (filterReport_keeps _ (evaluateSkew_keeps _ h))

theorem reportSettled_skew (j : Station) (r : Report) (s : State) : skewNow (reportSettled j r s) = skewNow (reportTimed j r s) := by
  obtain ⟨hpeers, _, _, _, hjoin, _⟩ := reportSettled_rest j r s
  refine skewNow_congr hpeers ?_
  rw [hjoin, evaluateSkew_join]
  split <;> rfl

/-- The check of R85 that finds the riser over its limit stands to the end of the event. -/
theorem reportSettled_over {s u : State} {x : Straps} (j : Station) (r : Report) (h : evaluatedAtLine s (reportTimed j r u))
    (hx : s.join.straps = some x) (ho : overLimitIn s (reportTimed j r u)) :
    raised .stackCut (reportSettled j r u) = true ∧
      (reportSettled j r u).stack.backoff = if s.stack.backoff = 0 then x.number.val + 1 else s.stack.backoff := by
  obtain ⟨hraised, hbackoff⟩ := (h.2 x hx).1 ho
  have hrun : (reportTimed j r u).stack.backoff ≠ 0 := by rw [hbackoff]; exact begun_ne_zero
  have hskew := evaluateSkew_running hrun
  refine ⟨reportSettled_keeps _ _ _ hraised, ?_⟩
  unfold reportSettled
  rw [settle_running (by rw [filterReport_stack, hskew]; exact hrun), filterReport_stack, hskew, hbackoff]

/-- A report that finds nothing, changes no skew and leaves the demand begins no backoff. -/
theorem reportSettled_within {u : State} {x : Straps} (j : Station) (r : Report) (hx : u.join.straps = some x)
    (hw : overLimit (queueReport j r (recordReport j r u)) = false) (hskew : (reportSettled j r u).join.skew = u.join.skew)
    (hd : demandOf (classRow x.fanClass) u = u.stack.demand) (hd' : (reportSettled j r u).stack.demand = u.stack.demand) :
    (reportSettled j r u).stack.backoff = u.stack.backoff := by
  obtain ⟨_, _, hjoin, _, _, hstack, _, _⟩ := reportTimed_rest j r u
  obtain ⟨hdemand, hbackoff⟩ := evaluate_same (s := queueReport j r (recordReport j r u)) (x := x) hx
    ((demandOf_congr _ rfl rfl rfl rfl).trans hd) hw
  have hstay : evaluateSkew (reportTimed j r u) = reportTimed j r u := by
    obtain ⟨_, _, _, _, hj, _⟩ := reportSettled_rest j r u
    rw [hj, evaluateSkew_join] at hskew
    by_cases hm : (reportTimed j r u).join.membership = .joined
    · rw [if_pos hm] at hskew
      exact evaluateSkew_stays (.inr (by rw [hjoin]; exact hskew))
    · exact evaluateSkew_stays (.inl hm)
  have hstraps : (filterReport (evaluateSkew (reportTimed j r u))).join.straps = some x := by
    rw [filterReport_join, hstay, hjoin]; exact hx
  have hfinal : (reportSettled j r u).stack.demand = demandOf (classRow x.fanClass) (reportSettled j r u) := by
    unfold reportSettled; exact settle_demand hstraps
  have hheld : (filterReport (evaluateSkew (reportTimed j r u))).stack.demand = u.stack.demand := by
    rw [filterReport_stack, hstay, hstack, hdemand]; rfl
  have hsame := (settle_same (s := filterReport (evaluateSkew (reportTimed j r u))) hstraps
    (by rw [hheld, ← hd']; exact hfinal.symm)).1
  unfold reportSettled
  rw [hsame, filterReport_stack, hstay, hstack, hbackoff]
  rfl

theorem overLimitIn_reportSettled {s u : State} (j : Station) (r : Report) :
    overLimitIn s (reportSettled j r u) ↔ overLimitIn s (reportTimed j r u) := by
  obtain ⟨hpeers, _, _, _, hjoin, _⟩ := reportSettled_rest j r u
  have hterms : (reportSettled j r u).join.terms = (reportTimed j r u).join.terms := by
    rw [hjoin, evaluateSkew_join]; split <;> rfl
  simp [overLimitIn, heldReports, presenceCount, hpeers, hterms]

/-- A valid frame that ends no DOUBT leaves the stack share and its flag. -/
theorem heard_counted {s : State} (j : Station) (hc : s.line.condition ≠ .doubt ∨ 1 < s.line.errors) :
    (heard j s).stack = s.stack ∧ raised .stackCut (heard j s) = raised .stackCut s := by
  rw [heard_eq, if_neg (fun h => hc.elim (fun hc => hc h.1) (fun he => absurd h.2 (Nat.not_le.mpr he)))]
  exact ⟨rfl, rfl⟩

theorem statusConsumed_holds : statusConsumed := by
  intro s j p r hp hr ho hd
  have hexec : exec (.statusTaken j p) s = .next (reportSettled j r (heard j s)) := by
    rw [exec_taken (deliver := deliverStatus j p) rfl hp hr ho, deliverStatus_usable hd]
    rfl
  obtain ⟨hpeers, _, _, _, hjoin, hline⟩ := reportSettled_rest j r (heard j s)
  obtain ⟨_, _, hj, _, hfilters, _, _, _⟩ := reportTimed_rest j r (heard j s)
  have hskew := reportSettled_skew j r (heard j s)
  rw [evaluateSkew_join, hj, heard_join] at hjoin
  refine ⟨_, hexec, fun hm => ?_, fun hm => ?_, fun hm h0 h1 => ?_, ?_, fun x hx hc => ⟨fun hover => ?_, fun hover hs hds hdt => ?_⟩,
    fun hrest => ?_, fun hrest d => ?_⟩
  · rw [hjoin, if_pos hm, hskew]
  · rw [hjoin, if_neg hm]
  · have hne : skewNow (reportTimed j r (heard j s)) ≠ (reportTimed j r (heard j s)).join.skew := by
      rw [hj, heard_join, h0, ← hskew, h1]; simp
    refine settle_keeps _ _ (filterReport_keeps _ ?_)
    rw [evaluateSkew_changes (by rw [hj, heard_join]; exact hm) hne, ← hskew, h1]
    exact evaluate_raise _ _
  · have hcap : capFormed (reportTimed j r (heard j s)) := (reportTimed_atLine j r rfl rfl rfl).1
    show capFormed (reportSettled j r (heard j s))
    unfold reportSettled
    exact settle_capFormed ((filterReport_free (m := {}) _).moves.cap ((evaluateSkew_moves (m := {}) _).cap hcap))
  · obtain ⟨hstack, hcut⟩ := heard_counted j hc
    exact reportSettled_over j r (reportTimed_atLine j r hstack (heard_join j s) hcut) hx ((overLimitIn_reportSettled j r).mp hover)
  · obtain ⟨hstack, _⟩ := heard_counted j hc
    have hw : overLimit (queueReport j r (recordReport j r (heard j s))) = false := by
      rw [← Bool.not_eq_true, ← overLimitIn_iff (s := s) (u := queueReport j r (recordReport j r (heard j s)))
        (t := evaluate (queueReport j r (recordReport j r (heard j s)))) (congrArg Stack.claim hstack) (by simp) (by simp)]
      intro h
      refine hover ((overLimitIn_reportSettled j r).mpr ?_)
      obtain ⟨hp1, _, hj1, _⟩ := reportTimed_rest j r (heard j s)
      simpa [overLimitIn, heldReports, presenceCount, hp1, hj1, queueReport, recordReport] using h
    have hdem : demandOf (classRow x.fanClass) (heard j s) = (heard j s).stack.demand := by
      rw [hstack, ← hds]
      exact demandOf_congr _ (by simp) (by simp) (by simp) (by simp)
    rw [reportSettled_within j r (by simpa using hx) hw (by rw [hs, heard_join]) hdem (by rw [hdt, hstack]), hstack]
  · have hfs : (evaluateSkew (reportTimed j r (heard j s))).filters = s.filters := by
      rw [(evaluateSkew_rest _).2.2.2.2.1, hfilters, heard_filters]
    have hform : filterReport (evaluateSkew (reportTimed j r (heard j s))) = formStates (evaluateSkew (reportTimed j r (heard j s))) := by
      rw [filterReport, if_pos (by rw [hfs]; exact hrest)]
    refine statesFormed_of_formStates (u := evaluateSkew (reportTimed j r (heard j s))) (fun d => ?_) (fun d => ?_) ?_ ?_ fun h => ?_
    · cases d <;> simp [filterOf, hfs]
    · unfold reportSettled; rw [settle_filterOf, hform]
    · unfold reportSettled; rw [settle_peers, filterReport_peers]
    · unfold reportSettled; rw [settle_join, filterReport_join]
    · unfold reportSettled; exact settle_keeps _ _ (by rw [hform]; exact h)
  · have hfs : (evaluateSkew (reportTimed j r (heard j s))).filters = s.filters := by
      rw [(evaluateSkew_rest _).2.2.2.2.1, hfilters, heard_filters]
    unfold reportSettled
    rw [settle_filterOf, filterReport, if_neg (by rw [hfs]; simp [hrest])]
    cases d <;> simp [filterOf, hfs]

/-- Settles O17. -/
theorem statusUpdatesTheRecord : Obligations.StatusUpdatesTheRecord := by
  refine ⟨fun s j p hp hr ho => ⟨fun r hd => ?_, fun hd => ?_⟩, fun s own h => ⟨fun k => sourceNow_some h, sourceNow_none h⟩,
    fun s h => by simp [sourceNow, h], statusConsumed_holds⟩
  · have hexec : exec (.statusTaken j p) s = .next (reportSettled j r (heard j s)) := by
      rw [exec_taken (deliver := deliverStatus j p) rfl hp hr ho, deliverStatus_usable hd]
      rfl
    obtain ⟨hpeers, hqueue, hclock, hfrost, hjoin, hline⟩ := reportSettled_rest j r (heard j s)
    obtain ⟨hp1, hq1, hj1, hf1, _, _, _, hl1⟩ := reportTimed_rest j r (heard j s)
    refine ⟨_, hexec, by rw [hpeers, hp1, heard_peers], by rw [hqueue, hq1, heard_queue, heard_join], ?_,
      by rw [hfrost, hf1, heard_frost], by rw [hline, hl1, heard_line]⟩
    rw [hclock, reportTimed_source]
    refine (sourceNow_congr ?_ hpeers).symm
    rw [hjoin, evaluateSkew_join]
    split <;> rfl
  · refine ⟨_, exec_taken (deliver := deliverStatus j p) rfl hp hr ho, ?_⟩
    rw [deliverStatus_unusable hd]
    simp

end Sys2Proof.Machine
end

section
/-! SUPPORT. A departure, the ends of REBUILD and UNSURE, the cut of the stack share and the effective mode: the statements O23,
O25, O28 and O29. -/

namespace Sys2Proof.Machine

-- One proof after the other, so that the check of the whole text stays within its limit of threads.
set_option Elab.async false

/-! ### A departure (R38, R40) -/

/-- A held record cleared lowers the presence count by one (R40). -/
theorem presenceCount_cleared {s t : State} {j : Station} (hj : (s.peers.records.get j).held = true)
    (ht : t.peers.records = s.peers.records.set j .cleared) : presenceCount t + 1 = presenceCount s := by
  have hlist : t.peers.records.toList = s.peers.records.toList.set j .cleared := by
    rw [ht]; exact Vector.toList_set j.isLt
  have hlen : j.val < s.peers.records.toList.length := by simp
  have hget : s.peers.records.toList[j.val].held = true := by simpa [Vector.get] using hj
  have hpos : 0 < s.peers.records.toList.countP PeerRecord.held :=
    List.countP_pos_iff.mpr ⟨_, List.getElem_mem hlen, hget⟩
  have hcleared : PeerRecord.cleared.held = false := rfl
  simp only [presenceCount, hlist]
  rw [List.countP_set hlen, if_pos hget, hcleared]
  simp only [Bool.false_eq_true, if_false]
  omega

theorem depart_rest (j : Station) (s : State) : (depart j s).queue = s.queue.depart s.peers.ticks j ∧
    (depart j s).line = s.line ∧ (depart j s).join = s.join ∧ (depart j s).mode = s.mode ∧ (depart j s).nv = s.nv ∧
    (depart j s).clock = { s.clock with source := sourceNow (depart j s) } := by
  refine ⟨by simp [depart, formSource], by simp [depart, formSource], by simp [depart, formSource], by simp [depart, formSource],
    by simp [depart, formSource], ?_⟩
  have h : (depart j s).clock = { s.clock with source := sourceNow (evaluate { s with
      peers := { s.peers with records := s.peers.records.set j .cleared }, queue := s.queue.depart s.peers.ticks j }) } := by
    simp [depart, formSource]
  rw [h]
  rfl

/-- The state in which a departure finds the stack share unit. -/
def departed (j : Station) (s : State) : State :=
  { s with peers := { s.peers with records := s.peers.records.set j .cleared }, queue := s.queue.depart s.peers.ticks j }

theorem depart_eq (j : Station) (s : State) : depart j s = formSource (evaluate (departed j s)) := rfl

theorem depart_atLine (j : Station) (s : State) : evaluatedAtLine s (depart j s) :=
  evaluatedAtLine_congr (evaluate_atLine (s := s) (u := departed j s) rfl rfl rfl)
    (evaluate_capFormed _) rfl rfl rfl rfl

/-- The end of an event after an evaluation that found nothing, the demand held throughout. -/
theorem settle_evaluated_same {s v : State} {x : Straps} (hx : s.join.straps = some x)
    (hd : demandOf (classRow x.fanClass) s = s.stack.demand) (h : overLimit s = false)
    (hstraps : v.join.straps = some x) (hstack : v.stack = (evaluate s).stack)
    (hd' : (settle v).stack.demand = s.stack.demand) : (settle v).stack.backoff = s.stack.backoff := by
  obtain ⟨hdemand, hbackoff⟩ := evaluate_same hx hd h
  have hheld : v.stack.demand = s.stack.demand := by rw [hstack, hdemand]
  have hfinal := settle_demand hstraps
  rw [(settle_same hstraps (by rw [hheld, ← hd', hfinal])).1, hstack, hbackoff]

/-- Settles O23. -/
theorem departureClearsTheRecord : Obligations.DepartureClearsTheRecord := by
  intro s j hp hheld hage
  have hexec : exec (.peerDeparture j) s = .next (settle (depart j s)) := by
    show live s (takeDeparture j) = _
    rw [live_running hp]
    simp [takeDeparture, hheld, hage]
  obtain ⟨hqueue, hline, hjoin, hmode, hnv, hclock⟩ := depart_rest j s
  have hpeers := depart_peers j s
  have hat := depart_atLine j s
  have hover : overLimitIn s (settle (depart j s)) ↔ overLimit (departed j s) = true :=
    overLimitIn_iff rfl (by simp [hjoin]; rfl) (by simp [hpeers]; rfl)
  refine ⟨_, hexec, by rw [settle_peers, hpeers]; rfl, presenceCount_cleared hheld (by rw [settle_peers, hpeers]), fun h => ?_,
    fun h => ?_, settle_capFormed hat.1, fun x hx => ⟨fun ho => ?_, fun ho hd hd' => ?_⟩, ?_, by rw [settle_line, hline],
    by rw [settle_join, hjoin], by rw [settle_mode, hmode], by rw [settle_nv, hnv]⟩
  · rw [settle_queue, hqueue]; simp [Queue.depart, h]
  · rw [settle_queue, hqueue]; simp [Queue.depart, h, Queue.drop]
  · exact ((evaluatedAtLine_settle hat).2 x hx).1 ho
  · rw [hover, Bool.not_eq_true] at ho
    exact settle_evaluated_same (s := departed j s) (x := x) hx ((demandOf_congr _ rfl rfl rfl rfl).trans hd) ho
      (by rw [hjoin]; exact hx) rfl hd'
  · rw [sourceNow_congr (s := depart j s) (t := settle (depart j s)) (by simp) (by simp), settle_clock, hclock]

/-! ### The ends of REBUILD and UNSURE (R118, R120) -/

theorem endRebuild_ended (q : Queue) : rebuildEnded q q.endRebuild := by
  refine ⟨rfl, rfl, rfl, rfl, rfl, fun e => ?_, ?_, rfl, rfl⟩
  · simp only [Queue.endRebuild, List.mem_map, (orderEntries_perm _ _).mem_iff, agedEntries, List.mem_filter, decide_eq_true_eq]
    exact ⟨fun ⟨x, ⟨h1, h2⟩, h3⟩ => ⟨x, h1, h2, h3.symm⟩, fun ⟨x, h1, h2, h3⟩ => ⟨x, ⟨h1, h2⟩, h3.symm⟩⟩
  · have horder := (orderEntries_order (n := if q.nSet then q.n else 0) (l := agedEntries (if q.nSet then q.n else 0) q.entries)
      (fun e he => by simpa [agedEntries] using (List.mem_filter.mp he).2)).2
    simp only [Queue.endRebuild]
    rw [List.pairwise_map]
    refine horder.imp fun {a b} h => ?_
    simp only [olderOrSame] at h
    simp only [entryBefore, Bool.or_eq_false_iff, decide_eq_false_iff_not, Bool.and_eq_false_iff, Fin.lt_def, Fin.le_def] at h ⊢
    omega

/-- Settles O25. -/
theorem copyBecomesSynced : Obligations.CopyBecomesSynced := by
  intro s hp
  refine ⟨fun h1 h2 => ?_, fun h1 h2 => ?_⟩
  · refine ⟨settle { s with queue := s.queue.endRebuild }, ?_, by rw [settle_queue]; exact endRebuild_ended s.queue, by simp, by simp,
      by simp⟩
    show live s takeRebuildEnd = _
    rw [live_running hp]
    simp [takeRebuildEnd, h1, h2]
  · refine ⟨settle { s with queue := s.queue.endConfirm }, ?_, by rw [settle_queue]; rfl, by simp, by simp, by simp⟩
    show live s takeConfirmEnd = _
    rw [live_running hp]
    simp [takeConfirmEnd, h1, h2]

/-! ### The cut (R85, R86) -/

theorem overLimit_iff (s : State) : overLimit s = true ↔
    s.join.terms.stackLimit < peerClaims s + s.stack.claim ∧ s.join.terms.stackLimit / presenceCount s < s.stack.claim := by
  simp only [overLimit, Bool.and_eq_true, decide_eq_true_eq]
  rfl

theorem checkLimit_demand (s : State) : (checkLimit s).stack.demand = s.stack.demand ∧ (checkLimit s).stack.cap = s.stack.cap := by
  unfold checkLimit; split <;> exact ⟨rfl, rfl⟩

/-- A cut takes the cap to the base share, and the claim no higher (R84, R85). -/
theorem evaluate_cut {s : State} {x : Straps} (hx : s.join.straps = some x) (hover : overLimit s = true)
    (hj : s.join.membership = .joined) (hc : s.line.condition = .clear) (hr : claimRuled s)
    (hd : demandOf (classRow x.fanClass) s = s.stack.demand) :
    (evaluate s).stack.cap = baseShare s ∧ (evaluate s).stack.claim ≤ baseShare s := by
  obtain ⟨_, hclaim, hcap, _⟩ := hr
  have hshare : baseShare s < s.stack.claim := by simp only [overLimit, Bool.and_eq_true, decide_eq_true_eq] at hover; exact hover.2
  obtain ⟨hdemand, hheld⟩ := checkLimit_demand s
  have hrun : 0 < (checkLimit s).stack.backoff := by
    rw [(checkLimit_of_over hover hx).2]; exact Nat.pos_of_ne_zero begun_ne_zero
  have hshare' : baseShare (checkLimit s) = baseShare s := by simp [baseShare, presenceCount]
  have hnew : (formCap (checkLimit s)).stack.cap = baseShare s := by
    show capFor (checkLimit s) (checkLimit s).stack.demand = _
    rw [capFor_hurt _ ⟨by simpa using hj, by simpa using hc⟩ (by simp; omega), hshare', hdemand]
    exact Nat.min_eq_right (by omega)
  have hmoved : (formCap (checkLimit s)).stack.cap ≠ s.stack.cap := by omega
  simp only [evaluate, if_neg hmoved]
  have hx' : (formCap (checkLimit s)).join.straps = some x := by simpa using hx
  obtain ⟨_, _, hsame⟩ := compose_same hx' (by
    rw [demandOf_congr (s := s) _ (by simp) (by simp) (by simp) (by simp), hd]
    exact hdemand.symm)
  have hle := compose_claim_le hx'
  rw [hsame, hnew] at hle
  exact ⟨by rw [hsame, hnew], hle⟩

/-- Settles O28. -/
theorem overLimitCutsAndBackoffEnds : Obligations.OverLimitCutsAndBackoffEnds := by
  refine ⟨?_, fun s hp h => ?_⟩
  · intro s x hx excess
    refine ⟨fun h => ?_, fun h => ?_⟩
    · have hover : overLimit s = true := (overLimit_iff s).mpr h
      obtain ⟨hraised, hbackoff⟩ := evaluate_of_over hover hx
      exact ⟨hraised, hbackoff, fun hj hc hr hd => evaluate_cut hx hover hj hc hr hd⟩
    · exact checkLimit_of_within (by rw [← Bool.not_eq_true, overLimit_iff]; exact h)
  · show live s takeBackoffEnd = _
    rw [live_running hp]
    simp [takeBackoffEnd, h, stackTick]

/-! ### Modes (R57, R60, R61) -/

theorem anyFanFailed_iff (s : State) : anyFanFailed s = true ↔ s.supplyFan.state = .failed ∨ s.extractFan.state = .failed := by
  simp [anyFanFailed]

/-- Settles O29: the conditions of R61 in their order. -/
theorem effectiveModeFirstMatch : Obligations.EffectiveModeFirstMatch := by
  intro s base failed
  have hnone : ¬ failed → anyFanFailed s = false := fun h => by rw [← Bool.not_eq_true, anyFanFailed_iff]; exact h
  refine ⟨fun h => ?_, fun h h1 => ?_, fun h h1 h2 => ?_, fun h h1 h2 h3 => ?_, fun h h1 h2 h3 h4 => ?_, fun h h1 h2 h3 h4 => ?_,
    fun b h => ?_, fun m h h1 => ?_, fun h h1 => ?_, rfl, rfl⟩
  · exact if_pos h
  · simp [effectiveMode, show baseMode s.mode ≠ .off from h, h1]
  · simp [effectiveMode, show baseMode s.mode ≠ .off from h, h1, (anyFanFailed_iff s).mpr h2]
  · simp [effectiveMode, show baseMode s.mode ≠ .off from h, h1, hnone h2, h3]
  · simp [effectiveMode, show baseMode s.mode ≠ .off from h, h1, hnone h2, h3, humidActive, h4]
  · simp [effectiveMode, show baseMode s.mode ≠ .off from h, h1, hnone h2, h3, humidActive, h4, base]
  · simp [base, baseMode, h]
  · simp [base, baseMode, h, h1]
  · simp [base, baseMode, h, h1]

end Sys2Proof.Machine
end

section
/-! SUPPORT. The balance step, the fans' events and the first requests of the panel: the statements O30, O31, O32, O33 and O34. -/

namespace Sys2Proof.Machine

-- One proof after the other, so that the check of the whole text stays within its limit of threads.
set_option Elab.async false

/-! ### The balance step (R63, R65) -/

/-- Settles O30. -/
theorem balanceWithinTheLimit : Obligations.BalanceWithinTheLimit := by
  intro supply extract limit hlimit b
  have hle : ∀ n, n * (100 - limit) ≤ n * 100 := fun n => Nat.mul_le_mul_left n (by omega)
  have hge : ∀ n, n * 100 ≤ n * (100 + limit) := fun n => Nat.mul_le_mul_left n (by omega)
  have h1 : supply * 100 < extract * (100 - limit) → b = (supply, supply * 100 / (100 - limit)) := fun h => if_pos h
  have h2 : extract * (100 + limit) < supply * 100 → b = (extract * (100 + limit) / 100, extract) := fun h => by
    have hn : ¬ supply * 100 < extract * (100 - limit) := by have := hle extract; have := hge extract; omega
    simp only [b, balanceStep]
    rw [if_neg hn, if_pos h]
  have h3 : extract * (100 - limit) ≤ supply * 100 → supply * 100 ≤ extract * (100 + limit) → b = (supply, extract) :=
    fun ha hb => by
      simp only [b, balanceStep]
      rw [if_neg (Nat.not_lt.mpr ha), if_neg (Nat.not_lt.mpr hb)]
  suffices hbound : b.1 * 100 ≤ b.2 * (100 + limit) ∧ b.2 * (100 - limit) ≤ b.1 * 100 ∧ b.1 ≤ supply ∧ b.2 ≤ extract from
    ⟨hbound.1, hbound.2.1, hbound.2.2.1, hbound.2.2.2, h1, h2, h3⟩
  by_cases ha : supply * 100 < extract * (100 - limit)
  · rw [h1 ha]
    have hpos : 0 < 100 - limit := by omega
    have hq : supply ≤ supply * 100 / (100 - limit) := (Nat.le_div_iff_mul_le hpos).mpr (hle supply)
    have hqe : supply * 100 / (100 - limit) ≤ extract :=
      Nat.le_of_lt (Nat.div_lt_of_lt_mul (by rw [Nat.mul_comm (100 - limit)]; exact ha))
    exact ⟨(Nat.mul_le_mul_right 100 hq).trans (hge _), Nat.div_mul_le_self _ _, Nat.le_refl _, hqe⟩
  · by_cases hb : extract * (100 + limit) < supply * 100
    · rw [h2 hb]
      have hq : extract ≤ extract * (100 + limit) / 100 := (Nat.le_div_iff_mul_le (by decide)).mpr (hge extract)
      have hqs : extract * (100 + limit) / 100 ≤ supply := Nat.le_of_lt (Nat.div_lt_of_lt_mul (by rw [Nat.mul_comm 100]; exact hb))
      exact ⟨Nat.div_mul_le_self _ _, (hle extract).trans (Nat.mul_le_mul_right 100 hq), hqs, Nat.le_refl _⟩
    · rw [h3 (Nat.not_lt.mp ha) (Nat.not_lt.mp hb)]
      exact ⟨Nat.not_lt.mp hb, Nat.not_lt.mp ha, Nat.le_refl _, Nat.le_refl _⟩

/-! ### Fans (R70 to R78) -/

@[simp] theorem setFan_self (s : State) (d : Side) : setFan s d (fanOf s d) = s := by cases d <;> rfl
@[simp] theorem fanOf_raise (g : EventFlag) (s : State) (d : Side) : fanOf (raise g s) d = fanOf s d := by cases d <;> rfl

/-- Where the tach input is read (R70). -/
theorem edge_turning {f : Fan} (h : f.state = .starting ∨ f.state = .running) (time : Nat) : f.edge time = Fan.edge.accept f time := by
  rcases h with h | h <;> simp [Fan.edge, h]

theorem edge_resting {f : Fan} (h : ¬ (f.state = .starting ∨ f.state = .running)) (time : Nat) : f.edge time = f := by
  unfold Fan.edge
  cases hs : f.state <;> simp_all

theorem accept_first {f : Fan} (h : f.lastEdge = none) (time : Nat) : Fan.edge.accept f time =
    { f with edgeSeen := true, stallWindow := some (seconds 1), lastEdge := some time } := by
  unfold Fan.edge.accept; rw [h]; rfl

theorem accept_early {f : Fan} {last time : Nat} (h : f.lastEdge = some last) (ht : time < last + 7500) :
    Fan.edge.accept f time = f := by
  unfold Fan.edge.accept; rw [h]; exact if_pos ht

theorem accept_late {f : Fan} {last time : Nat} (h : f.lastEdge = some last) (ht : last + 7500 ≤ time) :
    Fan.edge.accept f time = { f with edgeSeen := true, stallWindow := some (seconds 1), lastEdge := some time,
                                      measured := 30000000 / (time - last) } := by
  unfold Fan.edge.accept; rw [h]; exact if_neg (Nat.not_lt.mpr ht)

theorem exec_tachEdge {s : State} (hp : s.power = .running) (d : Side) (time : Nat) :
    exec (.tachEdge d time) s = .next (setFan s d ((fanOf s d).edge time)) :=
  live_running hp fun u => setFan u d ((fanOf u d).edge time)

/-- The mark of a loop step off its speed (R154). -/
theorem minuteKept_markSpeed (d : Side) (kept : Bool) (s : State) :
    minuteKept (markSpeed d kept s) d = (minuteKept s d && kept) ∧ ∀ e ≠ d, minuteKept (markSpeed d kept s) e = minuteKept s e := by
  refine ⟨by cases d <;> rfl, fun e he => ?_⟩
  cases d <;> cases e <;> first | rfl | exact absurd rfl he

@[simp] theorem fanOf_markSpeed (d e : Side) (kept : Bool) (s : State) : fanOf (markSpeed d kept s) e = fanOf s e := by
  cases d <;> cases e <;> rfl

theorem markSpeed_eq (d : Side) (kept : Bool) (s : State) : markSpeed d kept s = { s with filters := { s.filters with
    supplyMinute := (markSpeed d kept s).filters.supplyMinute, extractMinute := (markSpeed d kept s).filters.extractMinute } } := by
  cases d <;> rfl

theorem minuteKept_setFan (s : State) (d e : Side) (f : Fan) : minuteKept (setFan s d f) e = minuteKept s e := by
  cases d <;> cases e <;> rfl

theorem loopStep_duty (f : Fan) :
    ((f.loopStep.duty : Nat) : Int) = max 20 (min 255 ((f.duty : Int) + loopChange f.targetSpeed f.measured)) := by
  have h : (0 : Int) ≤ max 20 (min 255 ((f.duty : Int) + loopChange f.targetSpeed f.measured)) := by omega
  exact Int.toNat_of_nonneg h

theorem onSpeed_iff (f : Fan) : f.onSpeed = true ↔ 20 * ((f.targetSpeed : Int) - f.measured).natAbs ≤ f.targetSpeed := by
  simp only [Fan.onSpeed, decide_eq_true_eq]
  rw [← Int.natAbs_neg, Int.neg_sub, Nat.mul_comm]

/-- Settles O32. -/
theorem speedMeasuredAndHeld : Obligations.SpeedMeasuredAndHeld := by
  refine ⟨fun s d time hp => ?_, fun s d hp hs => ?_, rfl, rfl, rfl⟩
  · intro f turning
    rw [exec_tachEdge hp]
    refine ⟨fun h => ?_, fun h hl => ?_, fun last h hl ht => ?_, fun last h hl ht => ?_⟩
    · rw [edge_resting h, setFan_self]
    · rw [edge_turning h, accept_first hl]
    · rw [edge_turning h, accept_early hl ht, setFan_self]
    · rw [edge_turning h, accept_late hl ht]
  · intro f change
    refine ⟨⟨markSpeed d f.onSpeed (setFan s d f.loopStep), ?_, ?_, ?_, ?_, ?_, ?_⟩, ?_⟩
    · show live s (stepLoop d) = _
      rw [live_running hp, stepLoop, if_pos hs]
    · rw [fanOf_markSpeed, fanOf_setFan]; exact loopStep_duty f
    · rw [fanOf_markSpeed, fanOf_setFan]; rfl
    · rw [fanOf_markSpeed, fanOf_setFan]
      refine (markSpeed_eq _ _ _).trans ?_
      simp
    · rw [(minuteKept_markSpeed _ _ _).1, minuteKept_setFan, Bool.and_eq_true, onSpeed_iff]
    · intro e he
      rw [(minuteKept_markSpeed _ _ _).2 e he, minuteKept_setFan]
    · show live s (reachRunningTime d) = _
      rw [live_running hp, reachRunningTime, if_pos hs]
      rfl

theorem settle_fan_attempts (s : State) (d : Side) : (fanOf (settle s) d).attempts = (fanOf s d).attempts := by
  obtain ⟨hsupply, hextract⟩ := settle_attempts s
  cases d
  · rw [fanOf_supply, fanOf_supply, hsupply]
  · rw [fanOf_extract, fanOf_extract, hextract]

/-- Settles O33. -/
theorem fanTimersMoveTheFan : Obligations.FanTimersMoveTheFan := by
  intro s d hp f stalled
  refine ⟨fun h he => ?_, fun h he => ?_, fun h hw => ?_, fun h ha => ?_, fun h ha => ?_, settle_keeps _ _ (raise_raised _ _), ?_⟩
  · show live s (endKick d) = _
    rw [live_running hp, endKick, if_pos h, if_pos he]
    rfl
  · show live s (endKick d) = _
    rw [live_running hp, endKick, if_pos h, if_neg (by rw [show (fanOf s d).edgeSeen = false from he]; simp)]
    rfl
  · show live s (endStallWindow d) = _
    rw [live_running hp, endStallWindow, if_pos (by rw [Bool.and_eq_true, decide_eq_true_eq]; exact ⟨h, hw⟩)]
    rfl
  · show live s (endRestartWait d) = _
    rw [live_running hp, endRestartWait, if_pos h, if_pos ha]
    rfl
  · show live s (endRestartWait d) = _
    rw [live_running hp, endRestartWait, if_pos h, if_neg (Nat.not_lt.mpr ha)]
    rfl
  · rw [settle_fan_attempts, fanOf_raise, fanOf_setFan]

/-! ### Requests of the panel (R184, R185) -/

/-- A request reaches its owner at a free port. -/
theorem exec_request {s : State} {c : Instr} {code : Byte} {data : List Byte} {owner : State → State} (h : portFree s)
    (hc : exec c s = live s (panelRequest code data owner)) : exec c s = .next (owner (holdRequest code data s)) := by
  obtain ⟨hp, hr, hw⟩ := h
  rw [hc, live_running hp]
  simp [panelRequest, hr, hw]

theorem sendReply_answered {s u : State} {code : Byte} {request : List Byte} (hu : u.panel = (holdRequest code request s).panel)
    (kind : ReplyKind) (data : List Byte) : (sendReply kind data u).panel = answered s.panel code request kind data := by
  simp only [sendReply, hu]
  rfl

/-- A reply that moves the port alone. -/
theorem sendReply_held (s : State) (code : Byte) (request : List Byte) (kind : ReplyKind) (data : List Byte) :
    sendReply kind data (holdRequest code request s) = { s with panel := answered s.panel code request kind data } := rfl

theorem done_settled {s u : State} {code : Byte} {request : List Byte} (hu : u.panel = (holdRequest code request s).panel)
    (data : List Byte) : (done data (settle u)).panel = answered s.panel code request .done data :=
  sendReply_answered (by rw [settle_panel, hu]) _ _

theorem done_eq_panel (data : List Byte) (v : State) : done data v = { v with panel := (done data v).panel } := rfl

@[simp] theorem fanOf_done (data : List Byte) (v : State) (d : Side) : fanOf (done data v) d = fanOf v d := by cases d <;> rfl

theorem heldOfCode_none {n : Nat} (h : n = 0 ∨ 4 < n) : heldOfCode n = none := by
  unfold heldOfCode
  split <;> first | omega | rfl

theorem takeModeSet_held {code minutes : Byte} {b : BaseMode} (s : State) (h : heldOfCode code.toNat = some b) :
    takeModeSet code minutes s = done [] (settle (if b = .off then panelOff { s with mode := { s.mode with held := some b, boost := none } }
      else { s with mode := { s.mode with held := some b, boost := none } })) := by
  unfold takeModeSet; rw [h]

theorem takeModeSet_boost {m : Byte} (s : State) (h1 : 10 ≤ m.toNat) (h2 : m.toNat ≤ 120) :
    takeModeSet 5 m s = done [] (settle { s with mode := { s.mode with
      held := if s.mode.held = some .off then none else s.mode.held, boost := some (seconds (m.toNat * 60)) } }) := by
  unfold takeModeSet
  rw [show heldOfCode (5 : Byte).toNat = none from rfl]
  exact if_pos (by simp [h1, h2])

/-- A panel OFF outside STOP leaves the frost guard in CLEAR (R113). -/
theorem settle_panelOff_frost {s : State} (h : s.frost.stage ≠ .stop) : (settle (panelOff s)).frost = (toClear s).frost := by
  have hf : (panelOff s).frost = (toClear s).frost := by simp [panelOff, h]
  have hrest : frostAtRest (panelOff s) := ⟨by rw [hf]; simp [toClear], fun e => by rw [hf] at e; simp [toClear] at e⟩
  rw [settle_frost hrest, hf]
  rfl

/-- A panel OFF keeps all that a give-up keeps. -/
theorem panelOff_kept (s : State) : (panelOff s).mode = s.mode ∧ (panelOff s).panel = s.panel := by
  unfold panelOff; split <;> simp [toClear]

/-- Settles O31. -/
theorem modeSetRule : Obligations.ModeSetRule := by
  intro s m
  have hexec : ∀ code : Byte, portFree s → exec (.modeSet code m) s = .next (takeModeSet code m (holdRequest 2 [code, m] s)) :=
    fun code h => exec_request h rfl
  refine ⟨fun code b h hb hoff => ?_, fun h hs => ?_, fun h hs => ?_, fun h h1 h2 => ?_, fun code h hc => ?_, fun n hp hn hlt => ?_,
    fun n hp hn hle => ?_, rfl, rfl, rfl, rfl, fun n hn => heldOfCode_none hn⟩
  · refine ⟨_, hexec code h, ?_⟩
    rw [takeModeSet_held _ hb, if_neg hoff]
    refine ⟨by simp [done_eq], done_settled (by rfl) [], ?_, ?_, ?_⟩ <;> simp [done_eq]
  · refine ⟨_, hexec 4 h, ?_⟩
    rw [takeModeSet_held (b := .off) _ rfl, if_pos rfl]
    obtain ⟨hmode, hpanel⟩ := panelOff_kept
      { holdRequest 2 [4, m] s with mode := { (holdRequest 2 [4, m] s).mode with held := some .off, boost := none } }
    have hfrost := settle_panelOff_frost
      (s := { holdRequest 2 [4, m] s with mode := { (holdRequest 2 [4, m] s).mode with held := some .off, boost := none } }) hs
    refine ⟨by rw [done_eq, sendReply_mode, settle_mode, hmode]; rfl, done_settled hpanel [], ?_⟩
    rw [done_eq, sendReply_frost, hfrost]
    exact ⟨rfl, rfl, rfl, rfl, rfl, rfl, rfl, rfl⟩
  · refine ⟨_, hexec 4 h, ?_⟩
    rw [takeModeSet_held (b := .off) _ rfl, if_pos rfl, panelOff, if_pos (by exact hs)]
    refine ⟨by simp [done_eq], ?_, by simp [done_eq]⟩
    rw [done_eq, sendReply_frost, settle_stop]
    exact hs
  · refine ⟨_, hexec 5 h, ?_⟩
    rw [takeModeSet_boost _ h1 h2]
    refine ⟨by rw [done_eq, sendReply_mode, settle_mode]; rfl, done_settled (by rfl) [], ?_, ?_, ?_⟩ <;> simp [done_eq]
  · rw [hexec code h, ← sendReply_held]
    have hnone : heldOfCode code.toNat = none := heldOfCode_none (by
      rcases hc with rfl | hc | ⟨rfl, _⟩
      · exact .inl rfl
      · right; omega
      · right; decide)
    have hrange : ¬ (code = 5 ∧ 10 ≤ m.toNat ∧ m.toNat ≤ 120) := by
      rintro ⟨rfl, h1, h2⟩
      rcases hc with hc | hc | ⟨_, hc⟩
      · exact absurd hc (by decide)
      · exact absurd hc (by decide)
      · omega
    unfold takeModeSet
    rw [hnone]
    simp only [Bool.and_eq_true, decide_eq_true_eq, and_assoc]
    rw [if_neg hrange]
    rfl
  · show live s endBoost = _
    exact live_same (by simp [endBoost, boostEnding, hn, Nat.not_le.mpr hlt])
  · refine ⟨settle { s with mode := { s.mode with boost := none } }, ?_, by simp, by simp, by simp, by simp, by simp⟩
    show live s endBoost = _
    rw [live_running hp]
    simp [endBoost, boostEnding, hn, hle]

theorem sideOfByte_none {b : Byte} (h : 1 < b.toNat) : sideOfByte b = none := by
  have h0 : b ≠ 0 := fun e => by rw [e] at h; exact absurd h (by decide)
  have h1 : b ≠ 1 := fun e => by rw [e] at h; exact absurd h (by decide)
  rw [sideOfByte, if_neg h0, if_neg h1]

/-- Settles O34. -/
theorem fanClearRule : Obligations.FanClearRule := by
  intro s b d h
  have hexec : exec (.fanClear b) s = .next (takeFanClear b (holdRequest 8 [b] s)) := exec_request h rfl
  have hfan : fanOf (holdRequest 8 [b] s) d = fanOf s d := by cases d <;> rfl
  refine ⟨fun hb hs => ?_, fun hb hs => ?_, fun hb => ?_, rfl, rfl⟩
  · refine ⟨_, hexec, ?_⟩
    unfold takeFanClear
    rw [hb]
    simp only [hfan, hs, if_true]
    have hpanel := done_settled (s := s) (code := 8) (request := [b])
      (u := setFan (holdRequest 8 [b] s) d { (fanOf s d).toStopped with attempts := 0 }) (by simp) []
    refine ⟨?_, ?_⟩
    · rw [← hpanel]; exact done_eq_panel _ _
    · rw [fanOf_done, settle_fan_attempts, fanOf_setFan]
  · rw [hexec]
    unfold takeFanClear
    rw [hb]
    simp only [hfan, hs, if_false]
    rfl
  · rw [hexec]
    unfold takeFanClear
    rw [sideOfByte_none hb]
    rfl

end Sys2Proof.Machine
end

section
/-! SUPPORT. A scan through the channels, the frost guard, the humidity monitor and the filter unit: the statement O36. -/

namespace Sys2Proof.Machine

-- One proof after the other, so that the check of the whole text stays within its limit of threads.
set_option Elab.async false

/-! ### Readings (R95) -/

theorem outdoorCold_iff (s : State) : outdoorCold s = true ↔ ∀ o, s.sensors.tO.value = some o → o ≤ -20 := by
  unfold outdoorCold
  cases s.sensors.tO.value <;> simp

theorem outdoorMild_iff (s : State) : outdoorMild s = true ↔ ∃ o, s.sensors.tO.value = some o ∧ 0 < o := by
  unfold outdoorMild
  cases s.sensors.tO.value <;> simp

theorem exhaustBelow_none {s : State} (h : s.sensors.tX.value = none) (l : Int) : exhaustBelow s l = false := by
  simp [exhaustBelow, exhaust, h]

theorem exhaustFrom_none {s : State} (h : s.sensors.tX.value = none) (l : Int) : exhaustFrom s l = false := by
  simp [exhaustFrom, exhaust, h]

theorem exhaustBelow_some {s : State} {x : Int} (h : s.sensors.tX.value = some x) (l : Int) :
    exhaustBelow s l = decide (x < l) := by simp [exhaustBelow, exhaust, h]

theorem exhaustFrom_some {s : State} {x : Int} (h : s.sensors.tX.value = some x) (l : Int) :
    exhaustFrom s l = decide (l ≤ x) := by simp [exhaustFrom, exhaust, h]

theorem blindHolds_iff (s : State) : blindHolds s = true ↔
    s.sensors.tX.value = none ∧ ∀ o, s.sensors.tO.value = some o → o ≤ -20 := by
  rw [blindHolds, Bool.and_eq_true, outdoorCold_iff, exhaust, Option.isNone_iff_eq_none]

theorem supplyMoves_iff (s : State) : supplyMoves s = true ↔ s.supplyFan.state = .starting ∨ s.supplyFan.state = .running := by
  simp [supplyMoves]

/-! ### The frost guard's evaluation (R93 to R99, R102, R111, R112) -/

/-- A continuity timer runs on while its condition holds, from its length when it was stopped (R96). -/
theorem continuity_eq (holds : Bool) (length : Nat) (t : Timer) :
    continuity holds length t = if holds then some (t.getD length) else none := by
  unfold continuity
  cases holds <;> cases t <;> rfl

/-- The limit temperature that a scan forms (R94). -/
def scanLimit (s : State) : Int := s.join.terms.frostBase + humidLift s.sensors.hE.value

/-- The frost guard with its limit and its continuity timers set by the scan. -/
def scanned (s : State) (clear stop : Timer) : State :=
  { s with frost := { s.frost with tLim := scanLimit s, clearTimer := clear, stopTimer := stop } }

/-- The two conditions of continuity as the scan finds them (R98, R99, R102). -/
def clearAtScan (s : State) : Bool := clearHolds (formLimit s)

def stopAtScan (s : State) : Bool := stopHolds (formLimit s)

/-- What stands before the stage is judged. -/
def judged (s : State) : State :=
  scanned s (if clearAtScan s then some (s.frost.clearTimer.getD clearTicks) else none)
    (if stopAtScan s then some (s.frost.stopTimer.getD stopTicks) else none)

theorem runContinuity_formLimit (s : State) : runContinuity (formLimit s) = judged s := by
  simp only [runContinuity, continuity_eq]
  rfl

theorem frostTakesScan_iff (s : State) : frostTakesScan s = true ↔
    s.join.membership = .joined ∧ baseMode s.mode ≠ .off ∧ s.frost.stage ≠ .stop := by
  simp [frostTakesScan, and_assoc]

theorem frostScan_not_taken {s : State} (h : s.join.membership ≠ .joined ∨ baseMode s.mode = .off ∨ s.frost.stage = .stop) :
    frostScan s = s := by
  rw [frostScan, if_neg]
  rw [frostTakesScan_iff]
  rintro ⟨h1, h2, h3⟩
  rcases h with h | h | h
  · exact h h1
  · exact h2 h
  · exact h3 h

section
variable {s : State} (hj : s.join.membership = .joined) (hm : baseMode s.mode ≠ .off)
include hj hm

theorem frostScan_blind (hs : s.frost.stage ≠ .stop) (hb : s.frost.blind = false) (h : blindHolds s = true) :
    frostScan s = toBlind (judged s) := by
  rw [frostScan, if_pos ((frostTakesScan_iff s).mpr ⟨hj, hm, hs⟩), runContinuity_formLimit]
  exact if_pos (by rw [Bool.and_eq_true]; exact ⟨by rw [show (judged s).frost.blind = false from hb]; rfl, h⟩)

theorem frostScan_stage (hs : s.frost.stage ≠ .stop) (h : s.frost.blind = true ∨ blindHolds s = false) :
    frostScan s = stageAtScan (judged s) := by
  rw [frostScan, if_pos ((frostTakesScan_iff s).mpr ⟨hj, hm, hs⟩), runContinuity_formLimit]
  refine if_neg ?_
  show ¬ ((!s.frost.blind && blindHolds s) = true)
  rcases h with h | h <;> simp [h]

end

theorem judged_of {s : State} {c p : Bool} (hc : clearAtScan s = c) (hp : stopAtScan s = p) : judged s =
    scanned s (if c then some (s.frost.clearTimer.getD clearTicks) else none)
      (if p then some (s.frost.stopTimer.getD stopTicks) else none) := by
  rw [judged, hc, hp]

/-- Without T_x no condition of continuity holds (R95). -/
theorem judged_unread {s : State} (h : s.sensors.tX.value = none) : judged s = scanned s none none := by
  have hclear : clearAtScan s = false := by
    have hx : ∀ l, exhaustFrom (formLimit s) l = false := exhaustFrom_none (s := formLimit s) h
    unfold clearAtScan clearHolds
    split <;> simp [hx]
  have hstop : stopAtScan s = false := by
    have hx : ∀ l, exhaustBelow (formLimit s) l = false := exhaustBelow_none (s := formLimit s) h
    simp [stopAtScan, stopHolds, hx]
  rw [judged_of hclear hstop]
  rfl

theorem stopAtScan_outside {s : State} (h1 : s.frost.stage ≠ .reduce) (h2 : s.frost.stage ≠ .preheat) : stopAtScan s = false := by
  have e1 : (formLimit s).frost.stage ≠ .reduce := h1
  have e2 : (formLimit s).frost.stage ≠ .preheat := h2
  simp [stopAtScan, stopHolds, e1, e2]

theorem stopAtScan_blind {s : State} (h : s.frost.blind = true) : stopAtScan s = false := by
  have e : (formLimit s).frost.blind = true := h
  simp [stopAtScan, stopHolds, e]

/-- The stop timer's condition in REDUCE and PREHEAT (R99, R112). -/
theorem stopAtScan_read {s : State} {x : Int} (hx : s.sensors.tX.value = some x)
    (hs : s.frost.stage = .reduce ∨ s.frost.stage = .preheat) (hb : s.frost.blind = false) :
    stopAtScan s = true ↔ s.frost.reduction = 60 ∧ x < scanLimit s - 30 := by
  have e : stopAtScan s = ((decide (s.frost.stage = .reduce) || decide (s.frost.stage = .preheat)) && !s.frost.blind &&
      decide (s.frost.reduction = 60) && decide (x < scanLimit s - 30)) := by
    simp only [stopAtScan, stopHolds, exhaustBelow_some (s := formLimit s) hx]
    rfl
  rw [e, hb]
  rcases hs with hs | hs <;> simp [hs]

theorem clearAtScan_still {s : State} (h1 : s.frost.stage ≠ .watch) (h2 : s.frost.stage ≠ .preheat) : clearAtScan s = false := by
  unfold clearAtScan clearHolds
  cases hs : (formLimit s).frost.stage
  · rfl
  · exact absurd hs h1
  · rfl
  · exact absurd hs h2
  · rfl

theorem clearAtScan_watch {s : State} {x : Int} (hx : s.sensors.tX.value = some x) (hs : s.frost.stage = .watch) :
    clearAtScan s = true ↔ (∃ o, s.sensors.tO.value = some o ∧ 0 < o) ∧ scanLimit s + 30 < x := by
  have e : clearAtScan s = (outdoorMild s && decide (scanLimit s + 31 ≤ x)) := by
    rw [clearAtScan, clearHolds, show (formLimit s).frost.stage = .watch from hs]
    simp only [exhaustFrom_some (s := formLimit s) hx]
    rfl
  rw [e, Bool.and_eq_true, outdoorMild_iff, decide_eq_true_eq]
  exact and_congr_right fun _ => by omega

theorem clearAtScan_preheat {s : State} {x : Int} (hx : s.sensors.tX.value = some x) (hs : s.frost.stage = .preheat) :
    clearAtScan s = true ↔ (∃ o, s.sensors.tO.value = some o ∧ 0 < o) ∧ scanLimit s + 30 ≤ x := by
  have e : clearAtScan s = (outdoorMild s && decide (scanLimit s + 30 ≤ x)) := by
    rw [clearAtScan, clearHolds, show (formLimit s).frost.stage = .preheat from hs]
    simp only [exhaustFrom_some (s := formLimit s) hx]
    rfl
  rw [e, Bool.and_eq_true, outdoorMild_iff, decide_eq_true_eq]

/-! The stage at a scan, stage by stage. -/

section
variable {s : State} (c p : Timer)

theorem stageAtScan_unread (h : s.sensors.tX.value = none) (hs : s.frost.stage ≠ .clear ∨ outdoorCold s = false) :
    stageAtScan (scanned s c p) = scanned s c p := by
  have hx : exhaust (scanned s c p) = none := h
  have hb : ∀ l, exhaustBelow (scanned s c p) l = false := exhaustBelow_none (s := scanned s c p) h
  have hc : outdoorCold (scanned s c p) = outdoorCold s := rfl
  unfold stageAtScan
  cases hst : (scanned s c p).frost.stage
  · rcases hs with hs | hs
    · exact absurd hst hs
    · simp [hx, hc, hs]
  · simp [hb]
  · simp [hx]
  · rfl
  · rfl

theorem stageAtScan_clear {x : Int} (hx : s.sensors.tX.value = some x) (hs : s.frost.stage = .clear) :
    stageAtScan (scanned s c p) =
      if outdoorCold s = true ∨ x ≤ scanLimit s + 20 then toWatch (scanned s c p) else scanned s c p := by
  have e : stageAtScan (scanned s c p) =
      if (outdoorCold s || true && !decide (scanLimit s + 21 ≤ x)) = true then toWatch (scanned s c p) else scanned s c p := by
    rw [stageAtScan, show (scanned s c p).frost.stage = .clear from hs]
    simp only [exhaustFrom_some (s := scanned s c p) hx, show exhaust (scanned s c p) = some x from hx]
    rfl
  have hiff : (outdoorCold s || true && !decide (scanLimit s + 21 ≤ x)) = true ↔ outdoorCold s = true ∨ x ≤ scanLimit s + 20 := by
    simp only [Bool.true_and, Bool.or_eq_true, Bool.not_eq_true', decide_eq_false_iff_not]
    exact or_congr_right (by omega)
  rw [e]
  simp only [hiff]

theorem stageAtScan_watch {x : Int} (hx : s.sensors.tX.value = some x) (hs : s.frost.stage = .watch) :
    stageAtScan (scanned s c p) = if x < scanLimit s then watchToReduce (scanned s c p) else scanned s c p := by
  rw [stageAtScan, show (scanned s c p).frost.stage = .watch from hs]
  simp only [exhaustBelow_some (s := scanned s c p) hx, decide_eq_true_eq]
  rfl

theorem stageAtScan_held (hs : (s.frost.stage = .reduce ∧ s.frost.blind = false) ∨ s.frost.stage = .preheat) :
    stageAtScan (scanned s c p) = scanned s c p := by
  rcases hs with ⟨hs, hb⟩ | hs
  · rw [stageAtScan, show (scanned s c p).frost.stage = .reduce from hs]
    simp [show (scanned s c p).frost.blind = false from hb]
  · rw [stageAtScan, show (scanned s c p).frost.stage = .preheat from hs]

theorem stageAtScan_blindEnds {x : Int} (hx : s.sensors.tX.value = some x) (hs : s.frost.stage = .reduce)
    (hb : s.frost.blind = true) : stageAtScan (scanned s c p) = endBlind (scanned s c p) := by
  rw [stageAtScan, show (scanned s c p).frost.stage = .reduce from hs]
  simp [show (scanned s c p).frost.blind = true from hb, show exhaust (scanned s c p) = some x from hx]

end

theorem reduceEligible_moving {s : State} (h : s.supplyFan.state = .starting ∨ s.supplyFan.state = .running) :
    reduceEligible s = toPreheat s := if_pos ((supplyMoves_iff s).mpr h)

theorem reduceEligible_still {s : State} (h : ¬ (s.supplyFan.state = .starting ∨ s.supplyFan.state = .running)) :
    reduceEligible s = giveUp s := if_neg (fun e => h ((supplyMoves_iff s).mp e))

theorem blindHolds_read {s : State} {x : Int} (hx : s.sensors.tX.value = some x) : blindHolds s = false := by
  rw [← Bool.not_eq_true, blindHolds_iff]
  rintro ⟨h, _⟩
  rw [hx] at h
  cases h

theorem frostScan_read {s : State} {x : Int} (hj : s.join.membership = .joined) (hm : baseMode s.mode ≠ .off)
    (hx : s.sensors.tX.value = some x) (hs : s.frost.stage ≠ .stop) : frostScan s = stageAtScan (judged s) :=
  frostScan_stage hj hm hs (.inr (blindHolds_read hx))

theorem judged_watch {s : State} (hs : s.frost.stage = .watch) : judged s =
    scanned s (if clearAtScan s then some (s.frost.clearTimer.getD clearTicks) else none) none := by
  rw [judged_of rfl (stopAtScan_outside (by simp [hs]) (by simp [hs]))]
  rfl

theorem frostAtScan_holds : frostAtScan := by
  refine ⟨fun s h => frostScan_not_taken h, ?_⟩
  intro s hj hm
  extract_lets L cold mild blowing kept
  have hcold : outdoorCold s = true ↔ cold := outdoorCold_iff s
  have hL : L = scanLimit s := rfl
  clear_value L
  subst hL
  have hreading (x : Int) (hx : s.sensors.tX.value = some x) (hs : s.frost.stage ≠ .stop) : frostScan s = stageAtScan (judged s) :=
    frostScan_read hj hm hx hs
  refine ⟨fun hs hb hx hc => ?_, fun hx hc hb hs => ?_, fun x hx hs => ?_, fun x hx hs => ?_, fun x hx hs hb => ?_,
    fun hs hb => ?_⟩
  · rw [frostScan_blind hj hm hs hb ((blindHolds_iff s).mpr ⟨hx, hc⟩), judged_unread hx]
    rfl
  · have hblind : blindHolds s = false := by rw [← Bool.not_eq_true, blindHolds_iff]; exact fun h => hc h.2
    rw [frostScan_stage hj hm hs (.inr hblind), judged_unread hx,
      stageAtScan_unread none none hx (.inr (by rw [← Bool.not_eq_true, hcold]; exact hc))]
    rfl
  · have hj0 : judged s = scanned s none none :=
      judged_of (clearAtScan_still (by simp [hs]) (by simp [hs])) (stopAtScan_outside (by simp [hs]) (by simp [hs]))
    rw [hreading x hx (by simp [hs]), hj0, stageAtScan_clear none none hx hs]
    refine ⟨fun h => ?_, fun h1 h2 => ?_⟩
    · rw [if_pos (h.imp_left hcold.mpr)]
      rfl
    · rw [if_neg (by rw [hcold]; rintro (h | h); exacts [h1 h, absurd h2 (not_lt.mpr h)])]
      rfl
  · rw [hreading x hx (by simp [hs]), judged_watch hs, stageAtScan_watch _ none hx hs]
    have hclear := clearAtScan_watch hx hs
    refine ⟨fun h1 h2 => ?_, fun h1 h2 h3 => ?_, fun h1 h2 h3 => ?_, fun h1 h2 h3 => ?_, fun h1 h2 => ?_⟩
    · rw [if_pos h1, watchToReduce, if_neg (by rw [show (scanned s _ none).own.eligible = false from h2]; simp)]
      rfl
    · rw [if_pos h1, watchToReduce, if_pos (by exact h2), reduceEligible_moving (by exact h3)]
      rfl
    · rw [if_pos h1, watchToReduce, if_pos (by exact h2), reduceEligible_still (by exact h3)]
      rfl
    · rw [if_neg (by exact not_lt.mpr h1), hclear.mpr ⟨h2, h3⟩]
      rfl
    · have : clearAtScan s = false := by
        rw [← Bool.not_eq_true, hclear]
        rintro ⟨h3, h4⟩
        exact h2.elim (fun h => h h3) (fun h => absurd h4 (not_lt.mpr h))
      rw [if_neg (by exact not_lt.mpr h1), this]
      rfl
  · have hstop := stopAtScan_read hx hs hb
    have hkept : (if stopAtScan s then some (s.frost.stopTimer.getD stopTicks) else none) =
        kept (s.frost.reduction = 60 ∧ x < scanLimit s - 30) (seconds 600) s.frost.stopTimer := by
      simp only [hstop]
      rfl
    refine ⟨fun hr => ?_, fun hp => ?_⟩
    · rw [hreading x hx (by simp [hr]), judged, clearAtScan_still (by simp [hr]) (by simp [hr]),
        stageAtScan_held _ _ (.inl ⟨hr, hb⟩), hkept]
      rfl
    · have hclear := clearAtScan_preheat hx hp
      rw [hreading x hx (by simp [hp]), judged, stageAtScan_held _ _ (.inr hp), hkept]
      refine ⟨rfl, fun h1 h2 => ?_, fun h => ?_, rfl⟩
      · rw [hclear.mpr ⟨h1, h2⟩]
        rfl
      · have : clearAtScan s = false := by
          rw [← Bool.not_eq_true, hclear]
          rintro ⟨h3, h4⟩
          exact h.elim (fun h => h h3) (fun h => absurd h4 (not_le.mpr h))
        rw [this]
        rfl
  · have hstop : s.frost.stage ≠ .stop := by simp [hs]
    have hj0 : judged s = scanned s none none :=
      judged_of (clearAtScan_still (by simp [hs]) (by simp [hs])) (stopAtScan_blind hb)
    rw [frostScan_stage hj hm hstop (.inl hb), hj0]
    refine ⟨fun hx => ?_, fun x hx he => ?_, fun x hx he hbl => ?_, fun x hx he hbl => ?_⟩
    · rw [stageAtScan_unread none none hx (.inl (by simp [hs]))]
      rfl
    · rw [stageAtScan_blindEnds none none hx hs hb, endBlind,
        if_neg (by rw [show (scanned s none none).own.eligible = false from he]; simp)]
      rfl
    · rw [stageAtScan_blindEnds none none hx hs hb, endBlind, if_pos (by exact he), reduceEligible_moving (by exact hbl)]
      rfl
    · rw [stageAtScan_blindEnds none none hx hs hb, endBlind, if_pos (by exact he), reduceEligible_still (by exact hbl)]
      rfl

end Sys2Proof.Machine
end

section
/-! SUPPORT. A scan as the humidity monitor and the filter unit take it, and the scan as a whole: the statement O36. -/

namespace Sys2Proof.Machine

-- One proof after the other, so that the check of the whole text stays within its limit of threads.
set_option Elab.async false

/-! ### The humidity monitor's judgement (R142 to R145) -/

theorem judge_idle {h : Humid} (t : Terms) (hs : h.state = .idle) :
    Humid.judge t h = if (!h.frostStop && (rises h.ring || high t h.ring)) = true then h.toBoost else h := by
  rw [Humid.judge, hs]

theorem judge_boost {h : Humid} (t : Terms) (hs : h.state = .boost) :
    Humid.judge t h = if 60 ≤ h.boostMinutes + 1 then h.toRest
      else if (decide (10 ≤ h.boostMinutes + 1) && low t h.ring && !rises h.ring) = true then h.toIdle
      else { h with boostMinutes := h.boostMinutes + 1 } := by
  rw [Humid.judge, hs]

theorem judge_rest {h : Humid} (t : Terms) (hs : h.state = .rest) :
    Humid.judge t h = if 30 ≤ h.restMinutes + 1 then h.toIdle else { h with restMinutes := h.restMinutes + 1 } := by
  rw [Humid.judge, hs]

/-- The monitor with the completed minute in its ring, before the state is judged (R141). -/
def Humid.filled (x : Nat) (h : Humid) : Humid :=
  { h with sum := 0, count := 0, ring := ((h.sum + x) / 30 :: h.ring).take 10 }

theorem minute_eq (t : Terms) (x : Nat) (h : Humid) : h.minute t x = Humid.judge t (h.filled x) := rfl

theorem high_filled (t : Terms) (x : Nat) (h : Humid) :
    high t (h.filled x).ring = true ↔ t.humidUpper ≤ (h.sum + x) / 30 := by simp [high, Humid.filled]

theorem low_filled (t : Terms) (x : Nat) (h : Humid) :
    low t (h.filled x).ring = true ↔ (h.sum + x) / 30 ≤ t.humidLower := by simp [low, Humid.filled]

/-- A completed minute judges the state and touches nothing else. -/
theorem judge_rest_of (t : Terms) (h : Humid) :
    (Humid.judge t h).sum = h.sum ∧ (Humid.judge t h).count = h.count ∧ (Humid.judge t h).ring = h.ring ∧
      (Humid.judge t h).frostStop = h.frostStop := by
  cases hs : h.state
  case idle => rw [judge_idle t hs]; split <;> exact ⟨rfl, rfl, rfl, rfl⟩
  case boost =>
    rw [judge_boost t hs]
    split
    · exact ⟨rfl, rfl, rfl, rfl⟩
    · split <;> exact ⟨rfl, rfl, rfl, rfl⟩
  case rest => rw [judge_rest t hs]; split <;> exact ⟨rfl, rfl, rfl, rfl⟩

theorem minute_idle {h : Humid} (t : Terms) (x : Nat) (hs : h.state = .idle) (hf : h.frostStop = false) :
    (rises (h.filled x).ring = true ∨ t.humidUpper ≤ (h.sum + x) / 30 →
      (h.minute t x).state = .boost ∧ (h.minute t x).boostMinutes = 0) ∧
    (rises (h.filled x).ring = false → (h.sum + x) / 30 < t.humidUpper → (h.minute t x).state = .idle) := by
  have hup : (!(h.filled x).frostStop && (rises (h.filled x).ring || high t (h.filled x).ring)) = true ↔
      rises (h.filled x).ring = true ∨ t.humidUpper ≤ (h.sum + x) / 30 := by
    rw [show (h.filled x).frostStop = false from hf, Bool.not_false, Bool.true_and, Bool.or_eq_true, high_filled]
  rw [minute_eq, judge_idle t (by exact hs)]
  refine ⟨fun h1 => ?_, fun h1 h2 => ?_⟩
  · rw [if_pos (hup.mpr h1)]
    exact ⟨rfl, rfl⟩
  · rw [if_neg (mt hup.mp (by rintro (h3 | h3); exacts [by simp [h1] at h3, absurd h3 (not_le.mpr h2)]))]
    exact hs

theorem minute_idle_stopped {h : Humid} (t : Terms) (x : Nat) (hs : h.state = .idle) (hf : h.frostStop = true) :
    (h.minute t x).state = .idle := by
  rw [minute_eq, judge_idle t (by exact hs), if_neg (by rw [show (h.filled x).frostStop = true from hf]; simp)]
  exact hs

theorem minute_boost {h : Humid} (t : Terms) (x : Nat) (hs : h.state = .boost) :
    (h.boostMinutes + 1 < 10 → (h.minute t x).state = .boost ∧ (h.minute t x).boostMinutes = h.boostMinutes + 1) ∧
    (10 ≤ h.boostMinutes + 1 → h.boostMinutes + 1 < 60 → (h.sum + x) / 30 ≤ t.humidLower → rises (h.filled x).ring = false →
      (h.minute t x).state = .idle ∧ (h.minute t x).boostMinutes = 0) ∧
    (10 ≤ h.boostMinutes + 1 → h.boostMinutes + 1 < 60 →
      t.humidLower < (h.sum + x) / 30 ∨ rises (h.filled x).ring = true →
      (h.minute t x).state = .boost ∧ (h.minute t x).boostMinutes = h.boostMinutes + 1) ∧
    (60 ≤ h.boostMinutes + 1 →
      (h.minute t x).state = .rest ∧ (h.minute t x).boostMinutes = 0 ∧ (h.minute t x).restMinutes = 0) := by
  have hlow : (decide (10 ≤ (h.filled x).boostMinutes + 1) && low t (h.filled x).ring && !rises (h.filled x).ring) = true ↔
      10 ≤ h.boostMinutes + 1 ∧ (h.sum + x) / 30 ≤ t.humidLower ∧ rises (h.filled x).ring = false := by
    rw [Bool.and_eq_true, Bool.and_eq_true, decide_eq_true_eq, low_filled, Bool.not_eq_true', and_assoc]
    rfl
  rw [minute_eq, judge_boost t (by exact hs)]
  refine ⟨fun h1 => ?_, fun h1 h2 h3 h4 => ?_, fun h1 h2 h3 => ?_, fun h1 => ?_⟩
  · rw [if_neg (by exact not_le.mpr (by omega : h.boostMinutes + 1 < 60)), if_neg (mt hlow.mp (by omega))]
    exact ⟨hs, rfl⟩
  · rw [if_neg (by exact not_le.mpr h2), if_pos (hlow.mpr ⟨h1, h3, h4⟩)]
    exact ⟨rfl, rfl⟩
  · rw [if_neg (by exact not_le.mpr h2), if_neg]
    · exact ⟨hs, rfl⟩
    · refine mt hlow.mp ?_
      rintro ⟨_, h4, h5⟩
      rcases h3 with h3 | h3
      · exact absurd h4 (not_le.mpr h3)
      · rw [h5] at h3
        cases h3
  · rw [if_pos (by exact h1)]
    exact ⟨rfl, rfl, rfl⟩

theorem minute_rest {h : Humid} (t : Terms) (x : Nat) (hs : h.state = .rest) :
    (h.restMinutes + 1 < 30 → (h.minute t x).state = .rest ∧ (h.minute t x).restMinutes = h.restMinutes + 1) ∧
    (30 ≤ h.restMinutes + 1 → (h.minute t x).state = .idle ∧ (h.minute t x).restMinutes = 0) := by
  rw [minute_eq, judge_rest t (by exact hs)]
  refine ⟨fun h1 => ?_, fun h1 => ?_⟩
  · rw [if_neg (by exact not_le.mpr h1)]
    exact ⟨hs, rfl⟩
  · rw [if_pos (by exact h1)]
    exact ⟨rfl, rfl⟩

theorem minute_judged (t : Terms) (h : Humid) (x : Nat) : minuteJudged t h x (h.minute t x) := by
  obtain ⟨hsum, hcount, hring, _⟩ := judge_rest_of t (h.filled x)
  exact ⟨hsum, hcount, hring, fun hs hf => minute_idle t x hs hf, fun hs hf => minute_idle_stopped t x hs hf,
    fun hs => minute_boost t x hs, fun hs => minute_rest t x hs⟩

/-! ### A scan as the monitor and the filter unit take it (R140, R146, R160) -/

theorem humidScan_read {s : State} {x : Nat} (h : s.sensors.hE.value = some (x : Int)) :
    humidScan s = { s with humid := s.humid.sample s.join.terms x } := by
  rw [humidScan, show humiditySample s = some x by simp [humiditySample, h]]

theorem humidScan_unread {s : State} (h : s.sensors.hE.value = none) : humidScan s =
    if s.sensors.hE.state = .invalid then { s with humid := { s.humid.toIdle with sum := 0, count := 0, ring := [] } }
    else { s with humid := { s.humid with sum := 0, count := 0 } } := by
  rw [humidScan, show humiditySample s = none by simp [humiditySample, h]]

theorem temperatures_none {s : State}
    (h : s.sensors.tO.value = none ∨ s.sensors.tS.value = none ∨ s.sensors.tE.value = none ∨ s.sensors.tX.value = none) :
    temperatures s = none := by
  unfold temperatures
  split
  next h1 h2 h3 h4 => simp [h1, h2, h3, h4] at h
  next => rfl

theorem temperatures_some {s : State} {o su e x : Int} (h1 : s.sensors.tO.value = some o) (h2 : s.sensors.tS.value = some su)
    (h3 : s.sensors.tE.value = some e) (h4 : s.sensors.tX.value = some x) : temperatures s = some (o, su, e, x) := by
  simp [temperatures, h1, h2, h3, h4]

/-- Either a temperature is missing, or all four are read. -/
theorem temperatures_cases (s : State) :
    (s.sensors.tO.value = none ∨ s.sensors.tS.value = none ∨ s.sensors.tE.value = none ∨ s.sensors.tX.value = none) ∨
    ∃ o su e x, s.sensors.tO.value = some o ∧ s.sensors.tS.value = some su ∧ s.sensors.tE.value = some e ∧
      s.sensors.tX.value = some x := by
  rcases h1 : s.sensors.tO.value with _ | o
  · exact .inl (.inl rfl)
  rcases h2 : s.sensors.tS.value with _ | su
  · exact .inl (.inr (.inl rfl))
  rcases h3 : s.sensors.tE.value with _ | e
  · exact .inl (.inr (.inr (.inl rfl)))
  rcases h4 : s.sensors.tX.value with _ | x
  · exact .inl (.inr (.inr (.inr rfl)))
  exact .inr ⟨o, su, e, x, rfl, rfl, rfl, rfl⟩

theorem scanUnsteady_iff (s : State) : scanUnsteady s = true ↔ spoiledByScan s := by
  rcases temperatures_cases s with h | ⟨o, su, e, x, h1, h2, h3, h4⟩
  · have hspoiled : spoiledByScan s := by
      rcases h with h | h | h | h
      exacts [.inl h, .inr (.inl h), .inr (.inr (.inl h)), .inr (.inr (.inr (.inl h)))]
    exact iff_of_true (by rw [scanUnsteady, temperatures_none h]) hspoiled
  · rw [scanUnsteady, temperatures_some h1 h2 h3 h4]
    simp [spoiledByScan, h1, h2, h3, h4]

theorem trimScan_spoiled {s : State} (hj : s.join.membership = .joined) (h : spoiledByScan s) :
    trimScan s = { s with filters := { s.filters with spoiled := true } } :=
  if_pos (by simp [hj, (scanUnsteady_iff s).mpr h])

theorem trimScan_steady {s : State} (h : s.join.membership ≠ .joined ∨ ¬ spoiledByScan s) : trimScan s = s := by
  refine if_neg ?_
  rw [Bool.and_eq_true, decide_eq_true_eq, scanUnsteady_iff]
  exact fun ⟨h1, h2⟩ => h.elim (fun h => h h1) (fun h => h h2)

theorem takeScan_running {s : State} (o u e x h : Conversion) (ht : s.sensors.scanTimer.isSome = true) :
    takeScan o u e x h s = settle (handScan (raiseIf (anyLost s.sensors (s.sensors.take o u e x h)) .sensorInvalid
      { s with sensors := s.sensors.take o u e x h })) := if_pos ht

theorem exec_scan {s : State} (o u e x h : Conversion) (hp : s.power = .running) (ht : s.sensors.scanTimer.isSome = true) :
    exec (.scan o u e x h) s = .next (settle (handScan (raiseIf (anyLost s.sensors (s.sensors.take o u e x h)) .sensorInvalid
      { s with sensors := s.sensors.take o u e x h }))) := by
  rw [← takeScan_running o u e x h ht]
  exact live_running hp _

theorem othersAtScan_holds : othersAtScan := by
  refine ⟨fun s => ⟨fun x hx hc => ?_, fun x hx hc => ?_, fun hi => ?_, fun hi => ?_⟩,
    fun s => ⟨trimScan_spoiled, trimScan_steady⟩, fun s o u e x h hp ht => ?_⟩
  · rw [humidScan_read hx, Humid.sample, if_neg (not_le.mpr hc)]
  · rw [humidScan_read hx, Humid.sample, if_pos hc]
    exact ⟨rfl, minute_judged s.join.terms s.humid x, (judge_rest_of _ _).2.2.2⟩
  · rw [humidScan_unread (Channel.value_of_not_valid (by simp [hi])), if_pos hi]
    rfl
  · rw [humidScan_unread (Channel.value_of_not_valid (by simp [hi])), if_neg (by simp [hi])]
  · rw [exec_scan o u e x h hp ht]
    rfl

/-! ### The scan as a whole (R175 to R178) -/

theorem stageAtScan_mode (s : State) : (stageAtScan s).mode = s.mode := by
  unfold stageAtScan watchToReduce endBlind
  dsimp only
  (repeat' split) <;> simp [toWatch]

theorem reduceEligible_tLim (s : State) : (reduceEligible s).frost.tLim = s.frost.tLim := by
  unfold reduceEligible
  split <;> simp [toPreheat]

theorem stageAtScan_tLim (s : State) : (stageAtScan s).frost.tLim = s.frost.tLim := by
  unfold stageAtScan watchToReduce endBlind
  dsimp only
  (repeat' split) <;> simp [toWatch, reduceEligible_tLim]

theorem frostScan_mode (s : State) : (frostScan s).mode = s.mode := by
  unfold frostScan
  dsimp only
  split
  · split
    · exact giveUp_mode _
    · exact stageAtScan_mode _
  · rfl

/-- T_lim is formed at every scan that the frost guard takes (R93, R94). -/
theorem frostScan_tLim (s : State) : (frostScan s).frost.tLim =
    if s.join.membership = .joined ∧ baseMode s.mode ≠ .off ∧ s.frost.stage ≠ .stop then scanLimit s else s.frost.tLim := by
  by_cases h : s.join.membership = .joined ∧ baseMode s.mode ≠ .off ∧ s.frost.stage ≠ .stop
  · rw [if_pos h]
    obtain ⟨hj, hm, hs⟩ := h
    by_cases hb : s.frost.blind = false ∧ blindHolds s = true
    · rw [frostScan_blind hj hm hs hb.1 hb.2, toBlind, giveUp_frost]
      rfl
    · rw [frostScan_stage hj hm hs (by simpa [or_iff_not_imp_left] using hb), stageAtScan_tLim]
      rfl
  · rw [if_neg h, frostScan, if_neg (mt (frostTakesScan_iff s).mp h)]

/-- The humidity monitor and the filter unit take the scan after the frost guard, each in its own part of the state. -/
theorem handScan_eq (s : State) : ∃ h f, handScan s = { frostScan s with humid := h, filters := f } := by
  have hhumid : ∀ u : State, ∃ h, humidScan u = { u with humid := h } := fun u => by
    unfold humidScan
    split
    · exact ⟨_, rfl⟩
    · split <;> exact ⟨_, rfl⟩
  have htrim : ∀ u : State, ∃ f, trimScan u = { u with filters := f } := fun u => by
    unfold trimScan
    split
    · exact ⟨_, rfl⟩
    · exact ⟨u.filters, rfl⟩
  obtain ⟨h, e1⟩ := hhumid (frostScan s)
  obtain ⟨f, e2⟩ := htrim (humidScan (frostScan s))
  exact ⟨h, f, by rw [handScan, e2, e1]⟩

theorem newlyInvalid_iff (x y : Channel) : newlyInvalid x y = true ↔ x.state ≠ .invalid ∧ y.state = .invalid := by
  simp [newlyInvalid]

theorem anyLost_iff (x y : Sensors) : anyLost x y = true ↔
    (x.tO.state ≠ .invalid ∧ y.tO.state = .invalid) ∨ (x.tS.state ≠ .invalid ∧ y.tS.state = .invalid) ∨
    (x.tE.state ≠ .invalid ∧ y.tE.state = .invalid) ∨ (x.tX.state ≠ .invalid ∧ y.tX.state = .invalid) ∨
    (x.hE.state ≠ .invalid ∧ y.hE.state = .invalid) := by
  simp only [anyLost, Bool.or_eq_true, newlyInvalid_iff, or_assoc]

/-- Every flag raised before the frost guard takes a scan stays raised. -/
theorem handScan_keeps (g : EventFlag) (s : State) (h : raised g s = true) : raised g (handScan s) = true := by
  obtain ⟨hu, f, e⟩ := handScan_eq s
  rw [e]
  exact (frostScan_free (m := {}) s).flags rfl g h

/-- The scan as a command, told of the state it leaves. -/
theorem exec_scan_holds {s : State} (o u e x h : Conversion) (hp : s.power = .running)
    (ht : s.sensors.scanTimer.isSome = true) :
    ∃ t, exec (.scan o u e x h) s = .next t ∧ t.sensors = s.sensors.take o u e x h ∧
      (anyLost s.sensors t.sensors = true → raised .sensorInvalid t = true) ∧
      (t.line = s.line ∧ t.peers = s.peers ∧ t.join = s.join ∧ t.mode = s.mode ∧ t.queue = s.queue ∧ t.clock = s.clock ∧
        t.nv = s.nv ∧ t.panel = s.panel) ∧
      t.frost.tLim = (if s.join.membership = .joined ∧ baseMode s.mode ≠ .off ∧ s.frost.stage ≠ .stop then
        s.join.terms.frostBase + humidLift t.sensors.hE.value else s.frost.tLim) := by
  refine ⟨_, exec_scan o u e x h hp ht, ?_⟩
  generalize hy : s.sensors.take o u e x h = y
  generalize hv : raiseIf (anyLost s.sensors y) .sensorInvalid { s with sensors := y } = v
  have hframe : Free {} { s with sensors := y } v := hv ▸ raiseIf_free _ _ _
  have hfrost : v.frost = s.frost := by rw [← hv]; simp
  have hmode : v.mode = s.mode := by rw [← hv]; simp
  have hscan : Free {} v (frostScan v) := frostScan_free v
  have hflag : anyLost s.sensors y = true → raised .sensorInvalid v = true := by
    intro hl
    rw [← hv, raiseIf, if_pos hl]
    exact raise_raised _ _
  obtain ⟨hu, f, he⟩ := handScan_eq v
  have hsensors : (handScan v).sensors = y := by rw [he]; exact hscan.sensors.trans hframe.sensors
  refine ⟨by rw [settle_sensors, hsensors], fun hl => ?_, ⟨?_, ?_, ?_, ?_, ?_, ?_, ?_, ?_⟩, ?_⟩
  · rw [settle_sensors, hsensors] at hl
    exact settle_keeps _ _ (handScan_keeps _ _ (hflag hl))
  · rw [settle_line, he]; exact hscan.line.trans hframe.line
  · rw [settle_peers, he]; exact hscan.peers.trans hframe.peers
  · rw [settle_join, he]; exact hscan.join.trans hframe.join
  · rw [settle_mode, he]; exact (frostScan_mode v).trans hmode
  · rw [settle_queue, he]; exact hscan.queue.trans hframe.queue
  · rw [settle_clock, he]; exact hscan.clock.trans hframe.clock
  · rw [settle_nv, he]; exact (hscan.record rfl).trans (hframe.record rfl)
  · rw [settle_panel, he]; exact hscan.panel.trans hframe.panel
  · rw [settle_sensors, hsensors, settle_tLim, he]
    show (frostScan v).frost.tLim = _
    rw [frostScan_tLim, scanLimit, hmode, hfrost, hframe.join, hframe.sensors]

theorem take_table (c : Channel) (v : Int) :
    (c.state = .starting → c.good = 0 → c.take (some v) = { c with bad := 0, good := 1 }) ∧
    (c.state = .starting → c.good = 1 → c.take (some v) = { state := .valid, reading := some v, bad := 0, good := 0 }) ∧
    (c.state = .starting → c.bad < 2 → c.take none = { c with good := 0, bad := c.bad + 1 }) ∧
    (c.state = .starting → c.bad = 2 → c.take none = { state := .invalid, reading := none, bad := 0, good := 0 }) ∧
    (c.state = .valid → c.take (some v) = { c with reading := some v, bad := 0 }) ∧
    (c.state = .valid → c.bad < 2 → c.take none = { c with bad := c.bad + 1 }) ∧
    (c.state = .valid → c.bad = 2 → c.take none = { state := .invalid, reading := none, bad := 0, good := 0 }) ∧
    (c.state = .invalid → c.good = 0 → c.take (some v) = { c with good := 1 }) ∧
    (c.state = .invalid → c.good = 1 → c.take (some v) = { state := .valid, reading := some v, bad := 0, good := 0 }) ∧
    (c.state = .invalid → c.take none = { c with good := 0 }) := by
  refine ⟨fun h h1 => ?_, fun h h1 => ?_, fun h h1 => ?_, fun h h1 => ?_, fun h => ?_, fun h h1 => ?_, fun h h1 => ?_,
    fun h h1 => ?_, fun h h1 => ?_, fun h => ?_⟩ <;> simp only [Channel.take, h]
  · simp [h1]
  · simp [h1, Channel.toValid]
  · exact if_neg (by omega)
  · simp [h1, Channel.lost]
  · exact if_neg (by omega)
  · simp [h1, Channel.lost]
  · simp [h1]
  · simp [h1, Channel.toValid]

theorem humidLift_low {h : Int} (hl : h ≤ 40) : humidLift (some h) = 0 := if_pos hl

theorem humidLift_high {h : Int} (hl : 40 < h) : humidLift (some h) = min 30 (5 * ((h - 40) / 10)) := if_neg (not_le.mpr hl)

theorem humidLift_le (h : Option Int) : humidLift h ≤ 30 := by
  rcases h with _ | h
  · exact le_refl _
  · by_cases hl : h ≤ 40
    · rw [humidLift_low hl]; decide
    · rw [humidLift_high (not_le.mp hl)]; exact min_le_left _ _

/-- Settles O36: the frost guard stage by stage, the humidity monitor and the filter unit in their own parts of the state. -/
theorem scanUpdatesChannelsAndLimit : Obligations.ScanUpdatesChannelsAndLimit := by
  refine ⟨frostAtScan_holds, othersAtScan_holds, ⟨fun s o u e x h hp ht => ?_, take_table⟩, fun s o u e x h hp ht => ?_, rfl,
    fun h => humidLift_low, fun h h1 h2 => ?_, humidLift_le, by decide, by decide, by decide, by decide, by decide, by decide⟩
  · obtain ⟨t, ht', hsens, hflag, hframe, _⟩ := exec_scan_holds o u e x h hp ht
    exact ⟨t, ht', hsens, hflag, anyLost_iff _ _, hframe⟩
  · obtain ⟨t, ht', _, _, _, hlim⟩ := exec_scan_holds o u e x h hp ht
    exact ⟨t, ht', hlim⟩
  · rw [humidLift_high h1, min_eq_right (by omega)]

end Sys2Proof.Machine
end

section
/-! SUPPORT. What the end of an event leaves of the base and of the own place, and the frost guard's timers: the statements
O37 and O38. -/

namespace Sys2Proof.Machine

-- One proof after the other, so that the check of the whole text stays within its limit of threads.
set_option Elab.async false

/-! ### The end of an event -/

theorem sameBase_settle {s u : State} (h : sameBase s u) : sameBase s (settle u) := by simpa [sameBase] using h

theorem sameBase_giveUp {s u : State} (h : sameBase s u) : sameBase s (giveUp u) := by simpa [sameBase] using h

theorem sameBase_raise {s u : State} (f : EventFlag) (h : sameBase s u) : sameBase s (raise f u) := h

/-- What the frost guard alone changes leaves the base. -/
theorem sameBase_frost (s : State) (f : Frost) : sameBase s { s with frost := f } :=
  ⟨rfl, rfl, rfl, rfl, rfl, rfl, rfl, rfl, rfl, rfl, rfl, rfl, rfl, rfl, rfl, rfl, rfl, rfl, rfl, rfl, rfl, rfl, rfl, rfl⟩

theorem sameBase_humid (s : State) (h : Humid) : sameBase s { s with humid := h } :=
  ⟨rfl, rfl, rfl, rfl, rfl, rfl, rfl, rfl, rfl, rfl, rfl, rfl, rfl, rfl, rfl, rfl, rfl, rfl, rfl, rfl, rfl, rfl, rfl, rfl⟩

theorem told_congr {s t : State} (he : t.own.eligible = s.own.eligible) (hj : t.join = s.join) (hl : t.line = s.line)
    (hq : t.queue = s.queue) : told t ↔ told s := by
  rw [told, told, he, eligibleNow_congr hj hl hq]

theorem told_giveUp {s : State} : told (giveUp s) ↔ told s := told_congr (by simp) (by simp) (by simp) (by simp)

theorem frostAtRest_told {s : State} (ht : told s) (hs : s.frost.stage ≠ .preheat) : frostAtRest s := ⟨hs, fun _ => .inr ht⟩

/-- A round with nothing to tell the frost guard makes the request for a place and no other move of the place. -/
theorem noticeRound_place {s : State} (ht : told s) (hs : s.frost.stage ≠ .preheat) :
    (noticeRound s).out = (requestTake s).out ∧ (noticeRound s).own = (requestTake s).own := by
  have e1 : noticeEligibility s = s := if_pos ht.symm
  have e2 : noticeFan s = s := if_neg (by simp [hs])
  simp only [noticeRound, e1, e2, handTargets_out, compose_out, noticeStop_out, handTargets_own, compose_own, noticeStop_own,
    and_self]

theorem requestTake_off {s : State} (h : wantsTake s = false) : requestTake s = s := if_neg (by simp [h])

theorem noticeRound_wantsTake (s : State) : wantsTake (noticeRound s) = false := by
  have : wantsTake (noticeRound s) = wantsTake (requestTake (noticeFan (noticeEligibility s))) :=
    wantsTake_congr (by simp [noticeRound]) (by simp [noticeRound]) (by simp [noticeRound]) (by simp [noticeRound])
      (by simp [noticeRound])
  rw [this]
  exact wantsTake_requestTake _

/-- With the eligibility told and outside PREHEAT the end of an event asks for a place, once, and leaves it otherwise. -/
theorem settle_place {s : State} (ht : told s) (hs : s.frost.stage ≠ .preheat) :
    (settle s).out = (requestTake s).out ∧ (settle s).own = (requestTake s).own := by
  have hround : ∀ u : State, told u → u.frost.stage ≠ .preheat → told (noticeRound u) ∧
      (noticeRound u).frost.stage ≠ .preheat ∧ wantsTake (noticeRound u) = false := fun u hu hp =>
    ⟨(noticeRound_toldRound u).1, by rw [noticeRound_frost (frostAtRest_told hu hp)]; exact hp, noticeRound_wantsTake u⟩
  have hagain : ∀ u : State, told u → u.frost.stage ≠ .preheat → wantsTake u = false →
      (noticeRound u).out = u.out ∧ (noticeRound u).own = u.own := fun u hu hp hw => by
    have h := noticeRound_place hu hp
    rwa [requestTake_off hw] at h
  obtain ⟨o1, w1⟩ := noticeRound_place ht hs
  obtain ⟨t1, p1, n1⟩ := hround s ht hs
  obtain ⟨o2, w2⟩ := hagain _ t1 p1 n1
  obtain ⟨t2, p2, n2⟩ := hround _ t1 p1
  obtain ⟨o3, w3⟩ := hagain _ t2 p2 n2
  obtain ⟨t3, p3, n3⟩ := hround _ t2 p2
  obtain ⟨o4, w4⟩ := hagain _ t3 p3 n3
  unfold settle
  rw [followOutputs_out, followOutputs_own, o4, o3, o2, o1, w4, w3, w2, w1]
  exact ⟨rfl, rfl⟩

/-- Told, and in a stage that asks for no place, the end of an event leaves the outgoing set and the own place. -/
theorem settle_place_kept {s : State} (ht : told s) (hs : s.frost.stage ≠ .preheat) (hw : wantsTake s = false) :
    (settle s).out = s.out ∧ (settle s).own = s.own := by
  have h := settle_place ht hs
  rwa [requestTake_off hw] at h

theorem wantsTake_stage {s : State} (h : s.frost.stage ≠ .reduce) : wantsTake s = false := by simp [wantsTake, h]

/-! ### A give-up, case by case (R108, R134) -/

theorem requestGive_sendable {s : State} (hj : s.join.membership = .joined)
    (hc : s.line.condition = .clear ∨ s.line.condition = .doubt) :
    requestGive s = { s with out := { s.out with give := true } } :=
  if_pos (by rcases hc with hc | hc <;> simp [permitted, hj, hc])

theorem giveUp_take {s : State} (h : s.out.take = true) :
    giveUp s = { s with out := { s.out with take := false }, own := { s.own with outstanding := false } } := if_pos h

theorem giveUp_sending {s : State} (h : s.out.take = false) (hs : sendingTake s = true) : giveUp s = requestGive s := by
  rw [giveUp, if_neg (by simp [h]), if_pos hs]

theorem giveUp_entry {s : State} {e : Entry} (h : s.out.take = false) (hs : sendingTake s = false) (he : ownEntry s = some e) :
    giveUp s = requestGive { s with own := { s.own with leaving := some e.serial } } := by
  rw [giveUp, if_neg (by simp [h]), if_neg (by simp [hs]), he]

theorem giveUp_none {s : State} (h : s.out.take = false) (hs : sendingTake s = false) (he : ownEntry s = none) :
    giveUp s = s := by
  rw [giveUp, if_neg (by simp [h]), if_neg (by simp [hs]), he]

/-! ### The step timer (R96, R99, R101) -/

theorem exec_step {s : State} (hp : s.power = .running) (ht : s.frost.stepTimer.isSome = true) :
    exec .stepTimerExpires s = .next (settle (frostStepTimer s)) := by
  show live s endStep = _
  rw [live_running hp, endStep, if_pos ht]

/-- The frost guard with its reduction judged anew and its step timer started again. -/
def stepped (f : Frost) (r : Nat) : Frost :=
  { f with reduction := r, stepTimer := some (seconds 60),
           stopTimer := if r < f.reduction ∧ f.reduction = 60 then none else f.stopTimer }

theorem frostStepTimer_stepped {s : State} (h : s.frost.stage ≠ .reduce ∨ stepReduction s ≠ 0 ∨ s.frost.reduction = 0) :
    frostStepTimer s = { s with frost := stepped s.frost (stepReduction s) } := by
  have hno : (decide (s.frost.stage = .reduce) && decide (stepReduction s = 0) && decide (s.frost.reduction ≠ 0)) ≠ true := by
    simp only [ne_eq, Bool.and_eq_true, decide_eq_true_eq]
    rintro ⟨⟨h1, h2⟩, h3⟩
    exact h.elim (absurd h1) (fun h => h.elim (absurd h2) h3)
  rw [frostStepTimer, if_neg hno]
  simp only [stepped, Bool.and_eq_true, decide_eq_true_eq]
  rfl

theorem frostStepTimer_ends {s : State} (hs : s.frost.stage = .reduce) (h : stepReduction s = 0) (hr : s.frost.reduction ≠ 0) :
    frostStepTimer s = giveUp (toWatch s) := by
  rw [frostStepTimer, if_pos (by simp [hs, h, hr])]

section
variable {s : State} {x : Int}

theorem stepReduction_reduce (hs : s.frost.stage = .reduce) (hx : s.sensors.tX.value = some x) :
    stepReduction s = if x < s.frost.tLim then min 60 (s.frost.reduction + 10)
      else if s.frost.tLim + 10 ≤ x then s.frost.reduction - 10 else s.frost.reduction := by
  simp only [stepReduction, hs, exhaustBelow_some hx, exhaustFrom_some hx, decide_eq_true_eq]

theorem stepReduction_preheat (hs : s.frost.stage = .preheat) (hx : s.sensors.tX.value = some x) :
    stepReduction s = if s.frost.tLim ≤ x then s.frost.reduction - 10
      else if x < s.frost.tLim - 10 ∧ seconds 300 ≤ s.frost.preheatOn then min 60 (s.frost.reduction + 10)
      else s.frost.reduction := by
  simp only [stepReduction, hs, exhaustBelow_some hx, exhaustFrom_some hx, Bool.and_eq_true, decide_eq_true_eq]

theorem stepReduction_unread (hx : s.sensors.tX.value = none) : stepReduction s = s.frost.reduction := by
  unfold stepReduction
  cases s.frost.stage <;> simp [exhaustBelow_none hx, exhaustFrom_none hx]

end

theorem stepUnread_holds : stepUnread := by
  intro s hp ht hx hs
  have hr := stepReduction_unread (Channel.value_of_not_valid hx)
  rw [exec_step hp ht, frostStepTimer_stepped (by rw [hr]; exact .inr (ne_or_eq _ _)), hr, stepped,
    if_neg (by simp)]

theorem stepGivesUp_holds : stepGivesUp := by
  intro s x hp ht hv hx hs hr hlim
  have hzero : stepReduction s = 0 := by
    rw [stepReduction_reduce hs ((Channel.value_eq_some_iff _ _).mpr ⟨hv, hx⟩), if_neg (by omega), if_pos hlim, hr]
  have hexec : exec .stepTimerExpires s = .next (settle (giveUp (toWatch s))) := by
    rw [exec_step hp ht, frostStepTimer_ends hs hzero (by omega)]
  refine ⟨_, hexec, congrArg (fun u => settle (giveUp u)) rfl, ?_⟩
  have hkept : told s → (settle (giveUp (toWatch s))).out = (giveUp (toWatch s)).out ∧
      (settle (giveUp (toWatch s))).own = (giveUp (toWatch s)).own := fun h =>
    settle_place_kept (told_giveUp.mpr h) (by simp [toWatch]) (wantsTake_stage (by simp [toWatch]))
  refine ⟨fun h h1 => ?_, fun e h h1 h2 h3 hj hc => ?_, fun h h1 h2 h3 => ?_⟩
  · rw [(hkept h).1, (hkept h).2, giveUp_take (by exact h1)]
    exact ⟨rfl, rfl⟩
  · rw [(hkept h).1, (hkept h).2, giveUp_entry (by exact h1) (by exact h2) (by exact h3), requestGive_sendable (by exact hj) (by exact hc)]
    exact ⟨rfl, rfl⟩
  · rw [(hkept h).1, (hkept h).2, giveUp_none (by exact h1) (by exact h2) (by exact h3)]
    exact ⟨rfl, rfl⟩

/-- A step that does not end REDUCE, the eligibility told. -/
theorem exec_step_reduce {s : State} {r : Nat} (hp : s.power = .running) (ht : s.frost.stepTimer.isSome = true)
    (hs : s.frost.stage = .reduce) (htold : told s) (hr : stepReduction s = r) (hpos : 0 < r) :
    ∃ t, exec .stepTimerExpires s = .next t ∧ t.frost = { stepped s.frost r with preheater := false } ∧ sameBase s t := by
  refine ⟨_, by rw [exec_step hp ht, frostStepTimer_stepped (by rw [hr]; exact .inr (.inl (by omega))), hr], ?_,
    sameBase_settle (sameBase_frost _ _)⟩
  exact settle_frost (frostAtRest_told htold (by rw [show (stepped s.frost r).stage = .reduce from hs]; simp))

/-- A step in PREHEAT. -/
theorem exec_step_preheat {s : State} {r : Nat} (hp : s.power = .running) (ht : s.frost.stepTimer.isSome = true)
    (hs : s.frost.stage = .preheat) (hr : stepReduction s = r) :
    exec .stepTimerExpires s = .next (settle { s with frost := stepped s.frost r }) := by
  rw [exec_step hp ht, frostStepTimer_stepped (.inl (by simp [hs])), hr]

/-- Settles O37. -/
theorem stepTimerJudgesTheReduction : Obligations.StepTimerJudgesTheReduction := by
  refine ⟨stepUnread_holds, stepGivesUp_holds, ?_⟩
  intro s x hp ht hv hx r _
  have hvalue := (Channel.value_eq_some_iff _ _).mpr ⟨hv, hx⟩
  refine ⟨fun hs htold => ?_, fun hs => ?_⟩
  · have hred := stepReduction_reduce hs hvalue
    refine ⟨fun h => ?_, fun h h1 => ?_, fun h h1 => ?_, fun h h1 h2 => ?_⟩
    · exact exec_step_reduce hp ht hs htold (hred.trans (if_pos h)) (by omega)
    · have hzero : stepReduction s = 0 := by rw [hred, if_neg (by omega), if_pos h, show s.frost.reduction = 10 from h1]
      have hfrost := settle_frost (s := giveUp (toWatch s)) ⟨by simp [toWatch], by simp [toWatch]⟩
      rw [giveUp_frost] at hfrost
      have hexec : exec .stepTimerExpires s = .next (settle (giveUp (toWatch s))) := by
        rw [exec_step hp ht, frostStepTimer_ends hs hzero (by rw [show s.frost.reduction = 10 from h1]; omega)]
      refine ⟨_, hexec, ?_⟩
      rw [hfrost]
      exact ⟨rfl, rfl, rfl, rfl, sameBase_settle (sameBase_giveUp (sameBase_frost _ _))⟩
    · exact exec_step_reduce hp ht hs htold (hred.trans ((if_neg (by omega)).trans (if_pos h))) (by omega)
    · exact exec_step_reduce hp ht hs htold (hred.trans ((if_neg (by omega)).trans (if_neg (by omega)))) h2
  · have hpre := stepReduction_preheat hs hvalue
    refine ⟨fun h => ?_, fun h h1 => ?_, fun h h1 => ?_⟩
    · exact exec_step_preheat hp ht hs (hpre.trans (if_pos h))
    · exact exec_step_preheat hp ht hs (hpre.trans ((if_neg (by omega)).trans (if_pos ⟨h, h1⟩)))
    · exact exec_step_preheat hp ht hs (hpre.trans ((if_neg (by omega)).trans (if_neg (by omega))))

/-! ### The other timers (R98, R102, R105, R106, R109) -/

theorem frostAtRest_of {s : State} (h1 : s.frost.stage ≠ .preheat) (h2 : s.frost.stage = .reduce → s.frost.blind = true) :
    frostAtRest s := ⟨h1, fun h => .inl (h2 h)⟩

/-- Settles O38. -/
theorem frostTimersMoveTheStage : Obligations.FrostTimersMoveTheStage := by
  intro s hp
  refine ⟨fun ht hs => ?_, fun ht hs => ?_, fun ht hs => ?_, fun ht hs => ?_, fun ht => ?_, blindHolds_iff s⟩
  · refine ⟨settle (toClear s), ?_, ?_⟩
    · show live s endClear = _
      rw [live_running hp, endClear, if_pos ht, hs]
    · rw [settle_frost (frostAtRest_of (by simp [toClear]) (by simp [toClear]))]
      exact ⟨rfl, rfl, rfl, sameBase_settle (sameBase_frost _ _)⟩
  · refine ⟨settle (giveUp (toWatch s)), ?_, ?_⟩
    · show live s endClear = _
      rw [live_running hp, endClear, if_pos ht, hs]
    · rw [settle_frost (frostAtRest_of (by simp [toWatch]) (by simp [toWatch])), giveUp_frost]
      exact ⟨rfl, rfl, rfl, rfl, rfl, sameBase_settle (sameBase_giveUp (sameBase_frost _ _))⟩
  · refine ⟨settle (toStop s), ?_, ?_⟩
    · show live s endStop = _
      rw [live_running hp, endStop, if_pos (by simpa [ht] using hs)]
    · have hf : (toStop s).frost = { s.frost with
          stage := .stop, stepTimer := none, clearTimer := none, stopTimer := none, thawTimer := some thawTicks,
          preheater := false } := by simp [toStop]
      rw [settle_frost (frostAtRest_of (by simp [hf]) (by simp [hf])), hf]
      exact ⟨rfl, rfl, rfl, rfl, rfl, rfl, rfl, settle_keeps _ _ (raise_raised _ _), by rw [settle_humid_stop (by rw [hf])]; rfl,
        sameBase_settle (sameBase_raise _ (sameBase_giveUp (sameBase_frost _ _)))⟩
  · refine ⟨settle (endThaw s), ?_, ?_⟩
    · show live s endThawTimer = _
      rw [live_running hp, endThawTimer, if_pos (by simp [ht, hs])]
    by_cases hm : baseMode s.mode = .off
    · have he : endThaw s = toClear s := if_pos hm
      rw [he, settle_frost (frostAtRest_of (by simp [toClear]) (by simp [toClear]))]
      exact ⟨sameBase_settle (sameBase_frost _ _), fun _ => ⟨rfl, rfl⟩, fun h => absurd hm h, fun h => absurd hm h⟩
    by_cases hb : blindHolds s = true
    · have he : endThaw s = toBlind s := (if_neg hm).trans (if_pos hb)
      rw [he, settle_frost (frostAtRest_of (by simp [toBlind]) (by simp [toBlind])), toBlind, giveUp_frost]
      exact ⟨sameBase_settle (sameBase_giveUp (sameBase_frost _ _)), fun h => absurd h hm, fun _ _ => ⟨rfl, rfl, rfl⟩,
        fun _ h => by rw [hb] at h; cases h⟩
    · have he : endThaw s = toWatch s := (if_neg hm).trans (if_neg hb)
      rw [he, settle_frost (frostAtRest_of (by simp [toWatch]) (by simp [toWatch]))]
      exact ⟨sameBase_settle (sameBase_frost _ _), fun h => absurd h hm, fun _ h => absurd h hb, fun _ _ => ⟨rfl, rfl⟩⟩
  · refine ⟨settle { s with frost := { s.frost with reTake := none } }, ?_, by rw [settle_reTake], sameBase_settle (sameBase_frost _ _)⟩
    show live s endReTake = _
    rw [live_running hp, endReTake, if_pos ht]

end Sys2Proof.Machine
end

section
/-! SUPPORT. The humidity minutes as commands and the state of a filter record: the statements O39 and O40. -/

namespace Sys2Proof.Machine

-- One proof after the other, so that the check of the whole text stays within its limit of threads.
set_option Elab.async false

/-! ### Humidity minutes (R141 to R145) -/

theorem rises_iff (ring : List Nat) : rises ring = true ↔
    ∃ newest middle earlier rest, ring = newest :: middle :: earlier :: rest ∧ 50 ≤ newest ∧ earlier + 5 ≤ newest := by
  match ring with
  | [] => simp [rises]
  | [a] => simp [rises]
  | [a, b] => simp [rises]
  | a :: b :: c :: rest => simp [rises]

/-- An event of the humidity monitor alone, outside STOP. -/
theorem settle_humidOnly {s : State} (h : Humid) (hs : s.frost.stage ≠ .stop) :
    sameBase s (settle { s with humid := h }) ∧ (settle { s with humid := h }).humid = { h with frostStop := false } :=
  ⟨sameBase_settle (sameBase_humid s h), settle_humid (by exact hs)⟩

/-- Settles O39. -/
theorem humidityJudged : Obligations.HumidityJudged := by
  refine ⟨⟨rises_iff, fun s x hp hv hr hc hs => ?_⟩, fun s hp hs => ⟨fun hb hm => ?_, fun hr hm => ?_⟩⟩
  · have hsample : humiditySample s = some x := by simp [humiditySample, (Channel.value_eq_some_iff _ _).mpr ⟨hv, hr⟩]
    have hexec : exec .humidityMinute s = .next (settle { s with humid := s.humid.minute s.join.terms x }) := by
      show live s takeHumidityMinute = _
      rw [live_running hp, takeHumidityMinute, hsample]
      exact congrArg _ (if_pos hc)
    obtain ⟨hbase, hhumid⟩ := settle_humidOnly (s.humid.minute s.join.terms x) hs
    refine ⟨_, hexec, hbase, ?_⟩
    rw [hhumid]
    exact minute_judged s.join.terms s.humid x
  · have hexec : exec .boostHourEnd s = .next (settle { s with humid := s.humid.toRest }) := by
      show live s endBoostHour = _
      rw [live_running hp, endBoostHour, if_pos (by simp [hb, hm])]
    exact ⟨_, hexec, settle_humidOnly _ hs⟩
  · have hexec : exec .restEnd s = .next (settle { s with humid := s.humid.toIdle }) := by
      show live s endRest = _
      rw [live_running hp, endRest, if_pos (by simp [hr, hm])]
    exact ⟨_, hexec, settle_humidOnly _ hs⟩

/-! ### The state of a filter record (R152, R157) -/

theorem groupDue_iff (s : State) (f : Filter) : groupDue s f = true ↔
    85 ≤ filterLife s.join.terms f ∧ 2 ≤ presenceCount s ∧
      presenceCount s - 1 ≤ 2 * ((heldReports s).filter (fun r => r.filterDue)).length := by
  have hcount : (heldReports s).countP Report.filterDue = ((heldReports s).filter (fun r => r.filterDue)).length :=
    List.countP_eq_length_filter
  simp only [groupDue, hcount, Bool.and_eq_true, decide_eq_true_eq, and_assoc]
  exact and_congr_right fun _ => and_congr_right fun _ => by omega

theorem clogged_iff (f : Filter) : 130 ≤ f.clog.getD 0 ↔ ∃ c, f.clog = some c ∧ 130 ≤ c := by
  cases f.clog <;> simp

/-- Settles O40. -/
theorem filterStateFirstMatch : Obligations.FilterStateFirstMatch := by
  intro s f life dueReports group due
  have hdue : (decide (100 ≤ life) || decide (130 ≤ f.clog.getD 0) || groupDue s f) = true ↔ due := by
    rw [Bool.or_eq_true, Bool.or_eq_true, decide_eq_true_eq, decide_eq_true_eq, clogged_iff, groupDue_iff, or_assoc]
    exact Iff.rfl
  have hformed : formedState s f = if 125 ≤ life then .overdue else if f.unknown = true then .unknown
      else if (decide (100 ≤ life) || decide (130 ≤ f.clog.getD 0) || groupDue s f) = true then .due
      else if f.reference.isSome = true then .inService else .learning := rfl
  rw [hformed]
  refine ⟨fun h => if_pos h, fun h hu => ?_, fun h hu hd => ?_, fun h hu hd hr => ?_, fun h hu hd hr => ?_⟩
  · rw [if_neg (by omega), if_pos hu]
  · rw [if_neg (by omega), if_neg (by simp [hu]), if_pos (hdue.mpr hd)]
  · rw [if_neg (by omega), if_neg (by simp [hu]), if_neg (mt hdue.mp hd), if_pos hr]
  · rw [if_neg (by omega), if_neg (by simp [hu]), if_neg (mt hdue.mp hd), if_neg (by simp [hr])]

end Sys2Proof.Machine
end

section
/-! SUPPORT. What the work of the filter unit makes of the two records, of the trim and of the rest of the state: the statements
O42 and O43. -/

namespace Sys2Proof.Machine

-- One proof after the other, so that the check of the whole text stays within its limit of threads.
set_option Elab.async false

/-! ### Work of the filter unit alone -/

/-- From s to u only the filter unit and the event flags have moved. -/
def FilterOnly (s u : State) : Prop := u = { s with filters := u.filters, events := u.events }

namespace FilterOnly

theorem trans {s u v : State} (h : FilterOnly s u) (k : FilterOnly u v) : FilterOnly s v := by
  unfold FilterOnly at *
  rw [k, h]

theorem of_filters (s : State) (f : Filters) : FilterOnly s { s with filters := f } := rfl

/-- What the end of the event leaves of the blocks beside the filter unit. -/
theorem settle_frame {s u : State} (h : FilterOnly s u) :
    (settle u).line = s.line ∧ (settle u).peers = s.peers ∧ (settle u).join = s.join ∧ (settle u).queue = s.queue ∧
    (settle u).clock = s.clock ∧ (settle u).mode = s.mode ∧ (settle u).nv = s.nv ∧ (settle u).panel = s.panel ∧
    (settle u).sensors = s.sensors := by
  rw [settle_line, settle_peers, settle_join, settle_queue, settle_clock, settle_mode, settle_nv, settle_panel, settle_sensors, h]
  exact ⟨rfl, rfl, rfl, rfl, rfl, rfl, rfl, rfl, rfl⟩

theorem sensors {s u : State} (h : FilterOnly s u) : u.sensors = s.sensors := by rw [h]

theorem unsteady {s u : State} (h : FilterOnly s u) : unsteady u = unsteady s := by
  rw [h]
  rfl

theorem formedState {s u : State} (h : FilterOnly s u) (f : Filter) : formedState u f = formedState s f :=
  formedState_congr (by rw [h]) (by rw [h]) f

end FilterOnly

theorem setFilters_only (s : State) (f : Filters) : FilterOnly s (setFilters s f) := by
  rw [FilterOnly, setFilters_filters]
  exact setFilters_eq s f

theorem formStates_only (s : State) : FilterOnly s (formStates s) := setFilters_only _ _

theorem remind_only (s : State) : FilterOnly s (remind s) := setFilters_only _ _

theorem requestSave_only (s : State) : FilterOnly s (requestSave s) := by
  unfold requestSave
  split <;> rfl

theorem setFilter_only (s : State) (d : Side) (f : Filter) : FilterOnly s (setFilter s d f) := by cases d <;> rfl

theorem restartTrim_only (s : State) : FilterOnly s (restartTrim s) := rfl

theorem endPeriod_only (s : State) : FilterOnly s (endPeriod s) := rfl

theorem closeHours_only (s : State) : FilterOnly s (closeHours s) :=
  (FilterOnly.of_filters s _).trans ((formStates_only _).trans ((remind_only _).trans (requestSave_only _)))

/-! ### The two records -/

/-- A request for a save moves the save state alone. -/
theorem requestSave_filters (s : State) :
    (requestSave s).filters = { s.filters with save := (requestSave s).filters.save } := by
  unfold requestSave
  split <;> rfl

theorem formStates_filters (s : State) : (formStates s).filters = { s.filters with
    supply := s.filters.supply.formed (formedState s s.filters.supply),
    extract := s.filters.extract.formed (formedState s s.filters.extract) } := setFilters_filters _ _

theorem remind_filters (s : State) : (remind s).filters =
    { s.filters with supply := s.filters.supply.reminded, extract := s.filters.extract.reminded } := setFilters_filters _ _

theorem requestSave_filterOf (s : State) (d : Side) : filterOf (requestSave s) d = filterOf s d := by
  unfold requestSave
  split <;> cases d <;> rfl

theorem remind_filterOf (s : State) (d : Side) : filterOf (remind s) d = (filterOf s d).reminded := by
  cases d <;> simp only [filterOf, remind_filters]

/-- A record as the hour mark leaves it (R156). -/
theorem closeHours_filterOf (s : State) (d : Side) : filterOf (closeHours s) d =
    ((filterOf s d).closeHour.formed (formedState s (filterOf s d).closeHour)).reminded := by
  rw [closeHours, requestSave_filterOf, remind_filterOf, formStates_filterOf, FilterOnly.formedState (FilterOnly.of_filters s _)]
  cases d <;> rfl

theorem closeHours_filters (s : State) : (closeHours s).filters = { s.filters with
    supply := (closeHours s).filters.supply, extract := (closeHours s).filters.extract, minuteCount := 0,
    save := (closeHours s).filters.save } := by
  rw [closeHours, requestSave_filters, remind_filters, formStates_filters]

/-- A state formed reads of a record its life, its unknown mark, its clog index and its reference (R152). -/
theorem formedState_same (s : State) {f g : Filter} (hu : g.used = f.used) (hk : g.unknown = f.unknown) (hc : g.clog = f.clog)
    (hr : g.reference = f.reference) : formedState s g = formedState s f := by
  have hlife : ∀ t : Terms, filterLife t g = filterLife t f := fun t => by rw [filterLife, hu, ← filterLife]
  unfold formedState groupDue
  rw [hlife, hk, hc, hr]

theorem formedState_formed (s : State) (f : Filter) (x : FilterState) : formedState s (f.formed x) = formedState s f :=
  formedState_same s rfl rfl rfl rfl

theorem formedState_reminded (s : State) (f : Filter) : formedState s f.reminded = formedState s f :=
  formedState_same s rfl rfl rfl rfl

/-- A notice that passes from clear to raised raises FILTER_NOTICE (R158). -/
theorem setFilters_notice {s : State} {f : Filters} (d : Side) (h : (filterOf s d).notice = false)
    (hf : (filterOf (setFilters s f) d).notice = true) : raised .filterNotice (setFilters s f) = true := by
  refine setFilters_raised ?_
  cases d <;> simp only [filterOf, setFilters_filters] at h hf <;> simp [newNotice, h, hf]

/-- The forming of the states and the reminder raise a notice with its flag. -/
theorem remind_formStates_notice {s : State} (d : Side) (h : (filterOf s d).notice = false)
    (hf : (filterOf (remind (formStates s)) d).notice = true) : raised .filterNotice (remind (formStates s)) = true := by
  by_cases hn : (filterOf (formStates s) d).notice = true
  · exact (remind_free (m := {}) _).flags rfl _ (formStates_raised h hn)
  · exact setFilters_notice d (by simpa using hn) hf

theorem requestSave_raised (g : EventFlag) (s : State) : raised g (requestSave s) = raised g s := by
  unfold requestSave
  split <;> rfl

theorem closeHours_notice {s : State} (d : Side) (h : (filterOf s d).notice = false)
    (hf : (filterOf (closeHours s) d).notice = true) : raised .filterNotice (closeHours s) = true := by
  rw [closeHours, requestSave_filterOf] at hf
  rw [closeHours, requestSave_raised]
  exact remind_formStates_notice d (by cases d <;> exact h) hf

/-- A record that needs care has its notice up after the reminder (R158). -/
theorem reminded_notice (f : Filter) (x : FilterState) :
    (f.formed x).reminded.notice = true ↔ f.notice = true ∨ x.needsCare = true := by
  have : (f.formed x).reminded.notice = (f.notice || (decide (x ≠ f.state) && x.needsCare) || x.needsCare) := rfl
  rw [this]
  cases x.needsCare <;> simp

theorem saveRequested_of {s : State} {w : NvContent} (hw : workingRecord s = w) :
    saveRequested s.filters.save (requestSave s).filters.save w := by
  rw [requestSave_save, hw]
  exact ⟨fun h => by rw [h], fun c h => by rw [h], fun c h => by rw [h]⟩

theorem closeHours_save (s : State) : saveRequested s.filters.save (closeHours s).filters.save (workingRecord (closeHours s)) := by
  have h := saveRequested_of (s := remind (formStates { s with filters := { s.filters with
    supply := s.filters.supply.closeHour, extract := s.filters.extract.closeHour, minuteCount := 0 } })) rfl
  rw [remind_filters, formStates_filters] at h
  rw [closeHours, requestSave_workingRecord]
  exact h

/-- The hour closed, field by field (R156). -/
theorem closeHour_clog {f : Filter} {r : Nat} (h : f.reference = some r) (hm : 30 ≤ f.hourMinutes) :
    f.closeHour.clog = some (min 65535 (r * 100 / (f.hourSum / f.hourMinutes))) := by
  simp [Filter.closeHour, h, hm]

theorem closeHour_clog_short {f : Filter} (hm : f.hourMinutes < 30) : f.closeHour.clog = f.clog := by
  unfold Filter.closeHour
  split
  · rfl
  · exact if_neg (by omega)

/-! ### The hour mark and the reference as commands (R155, R156) -/

theorem referenceLearnt_holds {s : State} {d : Side} (hp : s.power = .running) (hr : (filterOf s d).reference = none)
    (hm : (filterOf s d).learnMinutes = 1439) (hk : minuteKept s d = true) (hs : (fanOf s d).state = .running)
    (hv : 0 < (fanOf s d).measured) :
    ∃ t, exec (.referenceLearnt d) s = .next t ∧
      (filterOf t d).reference = some (((filterOf s d).learnSum
        + min 65535 ((fanOf s d).duty * 1024 / (fanOf s d).measured)) / 1440) ∧
      (filterOf t d).learnMinutes = 1440 ∧ (filterOf t d).learnSum = 0 ∧ (filterOf t d).used = (filterOf s d).used ∧
      t.line = s.line ∧ t.peers = s.peers ∧ t.queue = s.queue ∧ t.clock = s.clock := by
  have hq : minuteQualifies (minuteKept s d) (fanOf s d) = true := by simp [minuteQualifies, hk, hs, hv]
  have hlearn : (filterOf s d).learn (minuteRatio (fanOf s d)) = { filterOf s d with
      reference := some (((filterOf s d).learnSum + minuteRatio (fanOf s d)) / 1440), learnMinutes := 1440, learnSum := 0 } :=
    if_pos (by omega)
  obtain ⟨u, hexec, honly, hfilter⟩ : ∃ u, exec (.referenceLearnt d) s = .next (settle (formStates u)) ∧ FilterOnly s u ∧
      filterOf u d = (filterOf s d).learn (minuteRatio (fanOf s d)) := by
    have htake : ∀ t, takeReferenceLearnt d s = t → exec (.referenceLearnt d) s = .next t := fun t h => by
      show live s (takeReferenceLearnt d) = _
      rw [live_running hp, h]
    cases d
    · exact ⟨_, htake _ (if_pos (by rw [hr, hm, hq]; rfl)), rfl, rfl⟩
    · exact ⟨_, htake _ (if_pos (by rw [hr, hm, hq]; rfl)), rfl, rfl⟩
  obtain ⟨hline, hpeers, _, hqueue, hclock, _⟩ := (honly.trans (formStates_only u)).settle_frame
  refine ⟨_, hexec, ?_, ?_, ?_, ?_, hline, hpeers, hqueue, hclock⟩ <;> rw [settle_filterOf, formStates_filterOf, hfilter, hlearn] <;> rfl

theorem hourMark_holds {s : State} (d : Side) (hp : s.power = .running) (hm : 59 ≤ s.filters.minuteCount) :
    ∃ t, exec .hourMark s = .next t ∧ t.filters.minuteCount = 0 ∧ (filterOf t d).hourMinutes = 0 ∧
      (filterOf t d).hourSum = 0 ∧
      (∀ r, (filterOf s d).reference = some r → 30 ≤ (filterOf s d).hourMinutes →
        (filterOf t d).clog = some (min 65535 (r * 100 / ((filterOf s d).hourSum / (filterOf s d).hourMinutes)))) ∧
      ((filterOf s d).hourMinutes < 30 → (filterOf t d).clog = (filterOf s d).clog) ∧
      ((filterOf t d).state.needsCare = true → (filterOf t d).notice = true) ∧
      saveRequested s.filters.save t.filters.save (workingRecord t) ∧ (filterOf t d).used = (filterOf s d).used ∧
      t.line = s.line ∧ t.peers = s.peers ∧ t.queue = s.queue ∧ t.clock = s.clock ∧ t.nv = s.nv := by
  have hexec : exec .hourMark s = .next (settle (closeHours s)) := by
    show live s takeHourMark = _
    rw [live_running hp, takeHourMark, if_pos hm]
  obtain ⟨hline, hpeers, _, hqueue, hclock, _, hnv, _⟩ := (closeHours_only s).settle_frame
  refine ⟨_, hexec, ?_, ?_⟩
  · rw [settle_filters_minuteCount, closeHours_filters]
  rw [settle_filterOf, closeHours_filterOf, settle_filters_save, settle_workingRecord]
  exact ⟨rfl, rfl, fun r hr h30 => closeHour_clog hr h30, fun h30 => closeHour_clog_short h30,
    fun hcare => (reminded_notice _ _).mpr (.inr hcare), closeHours_save s, rfl, hline, hpeers, hqueue, hclock, hnv⟩

/-- Settles O42. -/
theorem referenceAndHourMark : Obligations.ReferenceAndHourMark :=
  ⟨fun _ _ hp hr hm hk hs hv => referenceLearnt_holds hp hr hm hk hs hv, fun _ d hp hm => hourMark_holds d hp hm⟩

/-! ### The trim period (R160, R161) -/

theorem unsteady_iff (s : State) : unsteady s = true ↔ spoiledByEvents s := by
  simp [unsteady, boosting, humidActive, spoiledByEvents, or_assoc]

theorem trimStepped_up {t : Int} (h1 : -32 ≤ t) (h2 : t ≤ 31) : trimStepped t 1 = min 31 (t + 1) := by
  by_cases h : t = 31
  · subst h; decide
  · rw [trimStepped, if_pos (by simp only [Bool.and_eq_true, decide_eq_true_eq]; omega)]; omega

theorem trimStepped_down {t : Int} (h1 : -32 ≤ t) (h2 : t ≤ 31) : trimStepped t (-1) = max (-32) (t - 1) := by
  by_cases h : t = -32
  · subst h; decide
  · rw [trimStepped, if_pos (by simp only [Bool.and_eq_true, decide_eq_true_eq]; omega)]; omega

theorem trimStepped_zero (t : Int) : trimStepped t 0 = t := by simp [trimStepped]

/-- The change of trim that the figure X asks for (R161). -/
theorem trimChange_read {s : State} {o u e x : Int} (h1 : s.sensors.tO.value = some o) (h2 : s.sensors.tS.value = some u)
    (h3 : s.sensors.tE.value = some e) (h4 : s.sensors.tX.value = some x) : trimChange s =
      if 3 * (e - o) < 100 * ((u - o) - (e - x)) then 1
      else if 100 * ((u - o) - (e - x)) < -3 * (e - o) then -1 else 0 := by
  rw [trimChange, temperatures_some h1 h2 h3 h4]

/-- A period that ends in s and whose end is told in u, the work of the same minute between them. -/
theorem periodEnded_of {s u t : State} (hsensors : u.sensors = s.sensors) (htrim : u.filters.trim = s.filters.trim)
    (hspoiled : u.filters.spoiled = s.filters.spoiled) (hfloor : u.filters.fromFloor = s.filters.fromFloor)
    (hevents : unsteady u = unsteady s) (ht : t = settle (endPeriod u)) : periodEnded s t := by
  have htrim' : t.filters.trim = if s.filters.spoiled = true then s.filters.trim else trimStepped s.filters.trim (trimChange u) := by
    rw [ht, settle_filters_trim, ← htrim, ← hspoiled]
    rfl
  have hscan : spoiledByScan u ↔ spoiledByScan s := by simp only [spoiledByScan, hsensors]
  refine ⟨by rw [ht, settle_filters_period]; rfl, fun h => by rw [htrim', if_pos h], ?_, ?_, ?_⟩
  · intro o w e x hs hlo hhi hoe h1 h2 h3 h4 X
    have hchange : trimChange u = if 3 * (e - o) < X then 1 else if X < -3 * (e - o) then -1 else 0 :=
      trimChange_read (by rw [hsensors]; exact h1) (by rw [hsensors]; exact h2) (by rw [hsensors]; exact h3)
        (by rw [hsensors]; exact h4)
    rw [htrim', if_neg (by simp [hs]), hchange]
    refine ⟨fun h => ?_, fun h => ?_, fun ha hb => ?_⟩
    · rw [if_pos h, trimStepped_up hlo hhi]
    · rw [if_neg (by omega), if_pos h, trimStepped_down hlo hhi]
    · rw [if_neg (by omega), if_neg (by omega), trimStepped_zero]
  · rw [htrim', ht, settle_filters_fromFloor, ← hspoiled, ← htrim, ← hfloor]
    rfl
  · rw [ht, settle_spoiled, Bool.or_eq_true, unsteady_iff, ← hscan, ← or_assoc]
    refine or_congr ?_ Iff.rfl
    rw [← scanUnsteady_iff, ← unsteady_iff s, ← hevents, ← Bool.or_eq_true]
    rfl

/-- Settles O43. -/
theorem trimPeriodMovesTheTrim : Obligations.TrimPeriodMovesTheTrim := by
  intro s hp h14
  have hexec : exec .trimPeriodEnd s = .next (settle (endPeriod s)) := by
    show live s takeTrimPeriodEnd = _
    rw [live_running hp, takeTrimPeriodEnd, if_pos h14]
  obtain ⟨hline, hpeers, _, hqueue, hclock, _, hnv, _⟩ := (endPeriod_only s).settle_frame
  exact ⟨_, hexec, periodEnded_of rfl rfl rfl rfl rfl rfl, hline, hpeers, hqueue, hclock, hnv, settle_filter_supply _,
    settle_filter_extract _⟩

end Sys2Proof.Machine
end

section
/-! SUPPORT. The accounting minute: what it adds to a record, what the hour mark and the end of a trim period make of it: the
statement O41. -/

namespace Sys2Proof.Machine

-- One proof after the other, so that the check of the whole text stays within its limit of threads.
set_option Elab.async false

/-! ### A minute in a record (R153 to R155) -/

section
variable (f : Filter) (fan : Fan) (kept : Bool)

theorem minuteQualifies_iff : minuteQualifies kept fan = true ↔ kept = true ∧ fan.state = .running ∧ 0 < fan.measured := by
  simp [minuteQualifies, and_assoc]

theorem passed_eq : f.passed fan = { f with
    used := if fan.state = .running then min 4294967295 (f.used + fan.targetFlow) else f.used } := by
  unfold Filter.passed
  split <;> rfl

/-- A qualifying minute moves neither the used flow nor what the record says of its state. -/
theorem qualified_keeps (r : Nat) : (f.qualified r).used = f.used ∧ (f.qualified r).clog = f.clog ∧
    (f.qualified r).notice = f.notice ∧ (f.qualified r).state = f.state ∧ (f.qualified r).unknown = f.unknown := by
  unfold Filter.qualified Filter.learn
  dsimp only
  split
  · split <;> exact ⟨rfl, rfl, rfl, rfl, rfl⟩
  · exact ⟨rfl, rfl, rfl, rfl, rfl⟩

theorem account_used : (f.account fan kept).used =
    if fan.state = .running then min 4294967295 (f.used + fan.targetFlow) else f.used := by
  unfold Filter.account
  split
  · rw [(qualified_keeps _ _).1, passed_eq]
  · rw [passed_eq]

theorem account_keeps : (f.account fan kept).clog = f.clog ∧ (f.account fan kept).notice = f.notice ∧
    (f.account fan kept).state = f.state ∧ (f.account fan kept).unknown = f.unknown := by
  unfold Filter.account
  split
  · rw [passed_eq]
    exact (qualified_keeps _ _).2
  · rw [passed_eq]
    exact ⟨rfl, rfl, rfl, rfl⟩

variable {f fan kept}

theorem account_qualifies (h : kept = true ∧ fan.state = .running ∧ 0 < fan.measured) :
    f.account fan kept = (f.passed fan).qualified (minuteRatio fan) := if_pos ((minuteQualifies_iff fan kept).mpr h)

theorem account_passes (h : ¬ (kept = true ∧ fan.state = .running ∧ 0 < fan.measured)) :
    f.account fan kept = f.passed fan := if_neg (mt (minuteQualifies_iff fan kept).mp h)

theorem account_learning (h : kept = true ∧ fan.state = .running ∧ 0 < fan.measured) (hr : f.reference = none) :
    f.account fan kept = (f.passed fan).learn (minuteRatio fan) := by
  rw [account_qualifies h, Filter.qualified, show (f.passed fan).reference = none by rw [passed_eq]; exact hr]

theorem qualified_hour {r : Nat} (n : Nat) (hr : f.reference = some r) :
    f.qualified n = { f with hourMinutes := f.hourMinutes + 1, hourSum := f.hourSum + n } := by
  unfold Filter.qualified
  split
  next h => rw [hr] at h; cases h
  next => rfl

theorem account_hour (h : kept = true ∧ fan.state = .running ∧ 0 < fan.measured) (hr : f.reference.isSome = true) :
    f.account fan kept = { f with
      used := if fan.state = .running then min 4294967295 (f.used + fan.targetFlow) else f.used,
      hourMinutes := f.hourMinutes + 1, hourSum := f.hourSum + minuteRatio fan } := by
  obtain ⟨r, hr⟩ := Option.isSome_iff_exists.mp hr
  rw [account_qualifies h, passed_eq, qualified_hour (r := r) _ (by exact hr)]

/-- The learning of a minute (R155). -/
theorem account_learns :
    (kept = true ∧ fan.state = .running ∧ 0 < fan.measured → f.reference = none → f.learnMinutes < 1439 →
      (f.account fan kept).learnMinutes = f.learnMinutes + 1 ∧
      (f.account fan kept).learnSum = f.learnSum + minuteRatio fan ∧ (f.account fan kept).reference = none) ∧
    (kept = true ∧ fan.state = .running ∧ 0 < fan.measured → f.reference = none → 1439 ≤ f.learnMinutes →
      (f.account fan kept).learnMinutes = 1440 ∧ (f.account fan kept).learnSum = 0 ∧
      (f.account fan kept).reference = some ((f.learnSum + minuteRatio fan) / 1440)) ∧
    (¬ (kept = true ∧ fan.state = .running ∧ 0 < fan.measured) ∨ f.reference.isSome = true →
      (f.account fan kept).learnMinutes = f.learnMinutes ∧ (f.account fan kept).learnSum = f.learnSum ∧
      (f.account fan kept).reference = f.reference) := by
  refine ⟨fun h hr hm => ?_, fun h hr hm => ?_, fun h => ?_⟩
  · rw [account_learning h hr, Filter.learn, passed_eq, if_neg (by simpa using hm)]
    exact ⟨rfl, rfl, hr⟩
  · rw [account_learning h hr, Filter.learn, passed_eq, if_pos (by simpa using hm)]
    exact ⟨rfl, rfl, rfl⟩
  · by_cases hq : kept = true ∧ fan.state = .running ∧ 0 < fan.measured
    · rw [account_hour hq (h.resolve_left (not_not.mpr hq))]
      exact ⟨rfl, rfl, rfl⟩
    · rw [account_passes hq, passed_eq]
      exact ⟨rfl, rfl, rfl⟩

/-- The hour of a minute (R156). -/
theorem account_counts (h : (kept = true ∧ fan.state = .running ∧ 0 < fan.measured) ∧ f.reference.isSome = true) :
    (f.account fan kept).hourMinutes = f.hourMinutes + 1 ∧ (f.account fan kept).hourSum = f.hourSum + minuteRatio fan := by
  rw [account_hour h.1 h.2]
  exact ⟨rfl, rfl⟩

theorem account_uncounted (h : ¬ ((kept = true ∧ fan.state = .running ∧ 0 < fan.measured) ∧ f.reference.isSome = true)) :
    (f.account fan kept).hourMinutes = f.hourMinutes ∧ (f.account fan kept).hourSum = f.hourSum := by
  by_cases hq : kept = true ∧ fan.state = .running ∧ 0 < fan.measured
  · have hr : f.reference = none := by
      rw [← Option.not_isSome_iff_eq_none]
      exact fun hr => h ⟨hq, hr⟩
    rw [account_learning hq hr, Filter.learn, passed_eq]
    dsimp only
    split <;> exact ⟨rfl, rfl⟩
  · rw [account_passes hq, passed_eq]
    exact ⟨rfl, rfl⟩

end

/-! ### The minute in the filter unit (R153, R156, R160) -/

/-- The state with both records accounted and the next minute started. -/
def accounted (s : State) : State :=
  { s with filters := { s.filters with
    supply := s.filters.supply.account s.supplyFan s.filters.supplyMinute,
    extract := s.filters.extract.account s.extractFan s.filters.extractMinute,
    supplyMinute := s.supplyFan.state = .running, extractMinute := s.extractFan.state = .running,
    minuteTimer := some accountingTicks } }

/-- The state with the minute counted toward the hour, the states formed. -/
def minuteClosed (s : State) : State :=
  if 59 ≤ s.filters.minuteCount then closeHours (accounted s)
  else formStates { accounted s with filters := { (accounted s).filters with minuteCount := s.filters.minuteCount + 1 } }

theorem accountMinute_eq (s : State) : accountMinute s =
    if 14 ≤ s.filters.period then endPeriod (minuteClosed s)
    else { minuteClosed s with filters := { (minuteClosed s).filters with period := s.filters.period + 1 } } := rfl

theorem accounted_filterOf (s : State) (d : Side) :
    filterOf (accounted s) d = (filterOf s d).account (fanOf s d) (minuteKept s d) := by cases d <;> rfl

theorem minuteClosed_hour {s : State} (h : 59 ≤ s.filters.minuteCount) : minuteClosed s = closeHours (accounted s) := if_pos h

theorem minuteClosed_minute {s : State} (h : ¬ 59 ≤ s.filters.minuteCount) : minuteClosed s =
    formStates { accounted s with filters := { (accounted s).filters with minuteCount := s.filters.minuteCount + 1 } } := if_neg h

theorem minuteClosed_only (s : State) : FilterOnly s (minuteClosed s) := by
  unfold minuteClosed
  split
  · exact FilterOnly.trans (u := accounted s) rfl (closeHours_only _)
  · exact FilterOnly.trans (u := accounted s) rfl (FilterOnly.trans (FilterOnly.of_filters _ _) (formStates_only _))

theorem accountMinute_only (s : State) : FilterOnly s (accountMinute s) := by
  rw [accountMinute_eq]
  split
  · exact (minuteClosed_only s).trans (endPeriod_only _)
  · exact (minuteClosed_only s).trans (FilterOnly.of_filters _ _)

/-- Of the unit beside its records a closed minute moves the two marks, the timer, the count and, at an hour mark, the save. -/
theorem minuteClosed_filters (s : State) : (minuteClosed s).filters = { s.filters with
    supply := (minuteClosed s).filters.supply, extract := (minuteClosed s).filters.extract,
    supplyMinute := s.supplyFan.state = .running, extractMinute := s.extractFan.state = .running,
    minuteTimer := some accountingTicks,
    minuteCount := if 59 ≤ s.filters.minuteCount then 0 else s.filters.minuteCount + 1,
    save := (minuteClosed s).filters.save } := by
  by_cases h : 59 ≤ s.filters.minuteCount
  · rw [minuteClosed_hour h, closeHours_filters, if_pos h]
    rfl
  · rw [minuteClosed_minute h, formStates_filters, if_neg h]
    rfl

theorem accountMinute_filterOf (s : State) (d : Side) : filterOf (accountMinute s) d = filterOf (minuteClosed s) d := by
  rw [accountMinute_eq]
  split <;> cases d <;> rfl

theorem accountMinute_save (s : State) : (accountMinute s).filters.save = (minuteClosed s).filters.save := by
  rw [accountMinute_eq]
  split <;> rfl

theorem accountMinute_raised (g : EventFlag) (s : State) : raised g (accountMinute s) = raised g (minuteClosed s) := by
  rw [accountMinute_eq]
  split <;> rfl

theorem accountMinute_kept (s : State) (d : Side) :
    minuteKept (accountMinute s) d = decide ((fanOf s d).state = .running) := by
  have h : minuteKept (accountMinute s) d = minuteKept (minuteClosed s) d := by
    rw [accountMinute_eq]
    split <;> cases d <;> rfl
  rw [h]
  cases d
  · show (minuteClosed s).filters.supplyMinute = _
    rw [minuteClosed_filters]
    rfl
  · show (minuteClosed s).filters.extractMinute = _
    rw [minuteClosed_filters]
    rfl

theorem accountMinute_timer (s : State) : (accountMinute s).filters.minuteTimer = some accountingTicks ∧
    (accountMinute s).filters.minuteCount = if 59 ≤ s.filters.minuteCount then 0 else s.filters.minuteCount + 1 := by
  have h : (accountMinute s).filters.minuteTimer = (minuteClosed s).filters.minuteTimer ∧
      (accountMinute s).filters.minuteCount = (minuteClosed s).filters.minuteCount := by
    rw [accountMinute_eq]
    split <;> exact ⟨rfl, rfl⟩
  rw [h.1, h.2, minuteClosed_filters]
  exact ⟨rfl, rfl⟩

/-- A minute inside a trim period leaves the trim, its mark and the spoiled mark. -/
theorem accountMinute_inside {s : State} (h : s.filters.period < 14) : (accountMinute s).filters.period = s.filters.period + 1 ∧
    (accountMinute s).filters.trim = s.filters.trim ∧ (accountMinute s).filters.fromFloor = s.filters.fromFloor ∧
    (accountMinute s).filters.spoiled = s.filters.spoiled := by
  have hf := minuteClosed_filters s
  rw [accountMinute_eq, if_neg (not_le.mpr h), hf]
  exact ⟨rfl, rfl, rfl, rfl⟩

/-- A record at the hour mark, and at another minute. -/
theorem minuteClosed_filterOf (s : State) (d : Side) : filterOf (minuteClosed s) d =
    if 59 ≤ s.filters.minuteCount then
      ((filterOf (accounted s) d).closeHour.formed (formedState s (filterOf (accounted s) d).closeHour)).reminded
    else (filterOf (accounted s) d).formed (formedState s (filterOf (accounted s) d)) := by
  have hstate : ∀ f, formedState (accounted s) f = formedState s f := FilterOnly.formedState rfl
  by_cases h : 59 ≤ s.filters.minuteCount
  · rw [if_pos h, minuteClosed_hour h, closeHours_filterOf, hstate]
  · rw [if_neg h, minuteClosed_minute h, formStates_filterOf, FilterOnly.formedState (FilterOnly.of_filters (accounted s) _), hstate]
    cases d <;> rfl

/-- The notice of a record newly raised by the minute (R158). -/
theorem minuteClosed_notice {s : State} (d : Side) (h : (filterOf s d).notice = false)
    (hg : (filterOf (minuteClosed s) d).notice = true) : raised .filterNotice (minuteClosed s) = true := by
  have ha : (filterOf (accounted s) d).notice = false := by
    rw [accounted_filterOf, (account_keeps _ _ _).2.1]
    exact h
  by_cases hm : 59 ≤ s.filters.minuteCount
  · rw [minuteClosed_hour hm] at hg ⊢
    exact closeHours_notice d ha hg
  · rw [minuteClosed_minute hm] at hg ⊢
    exact formStates_raised (by cases d <;> exact ha) hg

/-- The state a record stands in is the one formed of it. -/
theorem minuteClosed_state (s : State) (d : Side) :
    (filterOf (minuteClosed s) d).state = formedState s (filterOf (minuteClosed s) d) := by
  rw [minuteClosed_filterOf]
  split
  · rw [formedState_reminded, formedState_formed]
    rfl
  · rw [formedState_formed]
    rfl

/-- The record at a minute that is no hour mark. -/
theorem accounted_inHour {s t : State} {d : Side} (hm : ¬ 59 ≤ s.filters.minuteCount)
    (ht : filterOf t d = filterOf (minuteClosed s) d) :
    ((minuteKept s d = true ∧ (fanOf s d).state = .running ∧ 0 < (fanOf s d).measured) ∧ (filterOf s d).reference.isSome = true →
      (filterOf t d).hourMinutes = (filterOf s d).hourMinutes + 1 ∧
      (filterOf t d).hourSum = (filterOf s d).hourSum + minuteRatio (fanOf s d)) ∧
    (¬ ((minuteKept s d = true ∧ (fanOf s d).state = .running ∧ 0 < (fanOf s d).measured) ∧
        (filterOf s d).reference.isSome = true) →
      (filterOf t d).hourMinutes = (filterOf s d).hourMinutes ∧ (filterOf t d).hourSum = (filterOf s d).hourSum) ∧
    (filterOf t d).clog = (filterOf s d).clog ∧
    ((filterOf t d).notice = true ↔ (filterOf s d).notice = true ∨ ((filterOf t d).state ≠ (filterOf s d).state ∧
      ((filterOf t d).state = .due ∨ (filterOf t d).state = .overdue ∨ (filterOf t d).state = .unknown))) := by
  obtain ⟨hclog, hnotice, hstate, _⟩ := account_keeps (filterOf s d) (fanOf s d) (minuteKept s d)
  rw [ht, minuteClosed_filterOf, if_neg hm, accounted_filterOf]
  refine ⟨fun h => account_counts h, fun h => account_uncounted h, hclog, ?_⟩
  rw [← needsCare_iff, ← hnotice, ← hstate]
  simp [Filter.formed]

/-- The record at the hour mark (R156, R158). -/
theorem accounted_hourMark {s t : State} {d : Side} (hm : 59 ≤ s.filters.minuteCount)
    (ht : filterOf t d = filterOf (minuteClosed s) d) :
    (filterOf t d).hourMinutes = 0 ∧ (filterOf t d).hourSum = 0 ∧
    (∀ r, (filterOf s d).reference = some r →
      (minuteKept s d = true ∧ (fanOf s d).state = .running ∧ 0 < (fanOf s d).measured) → 29 ≤ (filterOf s d).hourMinutes →
      (filterOf t d).clog = some (min 65535 (r * 100 /
        (((filterOf s d).hourSum + minuteRatio (fanOf s d)) / ((filterOf s d).hourMinutes + 1))))) ∧
    (∀ r, (filterOf s d).reference = some r →
      ¬ (minuteKept s d = true ∧ (fanOf s d).state = .running ∧ 0 < (fanOf s d).measured) → 30 ≤ (filterOf s d).hourMinutes →
      (filterOf t d).clog = some (min 65535 (r * 100 / ((filterOf s d).hourSum / (filterOf s d).hourMinutes)))) ∧
    ((filterOf s d).hourMinutes < 29 → (filterOf t d).clog = (filterOf s d).clog) ∧
    ((filterOf s d).hourMinutes = 29 →
      ¬ ((minuteKept s d = true ∧ (fanOf s d).state = .running ∧ 0 < (fanOf s d).measured) ∧
        (filterOf s d).reference.isSome = true) → (filterOf t d).clog = (filterOf s d).clog) ∧
    ((filterOf t d).notice = true ↔ (filterOf s d).notice = true ∨
      ((filterOf t d).state = .due ∨ (filterOf t d).state = .overdue ∨ (filterOf t d).state = .unknown)) := by
  obtain ⟨hclog, hnotice, _, _⟩ := account_keeps (filterOf s d) (fanOf s d) (minuteKept s d)
  obtain ⟨_, _, hlearn⟩ := account_learns (f := filterOf s d) (fan := fanOf s d) (kept := minuteKept s d)
  rw [ht, minuteClosed_filterOf, if_pos hm, accounted_filterOf]
  generalize ha : (filterOf s d).account (fanOf s d) (minuteKept s d) = a at *
  refine ⟨rfl, rfl, fun r hr hq h29 => ?_, fun r hr hq h30 => ?_, fun h => ?_, fun h hq => ?_, ?_⟩
  · have hsome : (filterOf s d).reference.isSome = true := by rw [hr]; rfl
    have hcounts := account_counts (f := filterOf s d) ⟨hq, hsome⟩
    rw [ha] at hcounts
    have hshut := closeHour_clog (f := a) ((hlearn (.inr hsome)).2.2.trans hr) (by rw [hcounts.1]; omega)
    rw [hcounts.1, hcounts.2] at hshut
    exact hshut
  · have hcounts := account_uncounted (f := filterOf s d) (fun h => hq h.1)
    rw [ha] at hcounts
    have hshut := closeHour_clog (f := a) ((hlearn (.inl hq)).2.2.trans hr) (by rw [hcounts.1]; exact h30)
    rw [hcounts.1, hcounts.2] at hshut
    exact hshut
  · have hle : a.hourMinutes ≤ (filterOf s d).hourMinutes + 1 := by
      rw [← ha]
      by_cases hin : (minuteKept s d = true ∧ (fanOf s d).state = .running ∧ 0 < (fanOf s d).measured) ∧
          (filterOf s d).reference.isSome = true
      · exact (account_counts hin).1.le
      · rw [(account_uncounted hin).1]; exact Nat.le_succ _
    exact (closeHour_clog_short (f := a) (by omega)).trans hclog
  · have hcounts := account_uncounted hq
    rw [ha] at hcounts
    exact (closeHour_clog_short (f := a) (by rw [hcounts.1, h]; omega)).trans hclog
  · rw [← needsCare_iff, reminded_notice, ← hnotice]
    exact Iff.rfl

theorem minute_filterAccounted (s : State) (d : Side) : filterAccounted s (settle (accountMinute s)) d := by
  have hg : filterOf (settle (accountMinute s)) d = filterOf (minuteClosed s) d := by
    rw [settle_filterOf, accountMinute_filterOf]
  obtain ⟨hlearn1, hlearn2, hlearn3⟩ := account_learns (f := filterOf s d) (fan := fanOf s d) (kept := minuteKept s d)
  have hlearned : (filterOf (settle (accountMinute s)) d).learnMinutes =
        ((filterOf s d).account (fanOf s d) (minuteKept s d)).learnMinutes ∧
      (filterOf (settle (accountMinute s)) d).learnSum = ((filterOf s d).account (fanOf s d) (minuteKept s d)).learnSum ∧
      (filterOf (settle (accountMinute s)) d).reference = ((filterOf s d).account (fanOf s d) (minuteKept s d)).reference ∧
      (filterOf (settle (accountMinute s)) d).unknown = ((filterOf s d).account (fanOf s d) (minuteKept s d)).unknown := by
    rw [hg, minuteClosed_filterOf, accounted_filterOf]
    split <;> exact ⟨rfl, rfl, rfl, rfl⟩
  obtain ⟨hmin, hsum, href, hunknown⟩ := hlearned
  refine ⟨fun h h1 h2 => ?_, fun h h1 h2 => ?_, fun h => ?_, fun h => accounted_inHour h hg, fun h => accounted_hourMark h hg,
    fun h h1 => ?_, ?_, ?_, ?_⟩
  · rw [hmin, hsum, href]; exact hlearn1 h h1 h2
  · rw [hmin, hsum, href]; exact hlearn2 h h1 h2
  · rw [hmin, hsum, href]; exact hlearn3 h
  · refine settle_keeps _ _ ?_
    rw [accountMinute_raised]
    exact minuteClosed_notice d h (by rw [← hg]; exact h1)
  · rw [hg, minuteClosed_state]
    obtain ⟨_, hpeers, hjoin, _⟩ := (accountMinute_only s).settle_frame
    exact (formedState_congr hpeers (by rw [hjoin]) _).symm
  · rw [hunknown, (account_keeps _ _ _).2.2.2]
  · rw [settle_minuteKept, accountMinute_kept, Bool.and_eq_true, decide_eq_true_eq, decide_eq_true_eq]

/-- Settles O41. -/
theorem accountingMinuteAddsFlow : Obligations.AccountingMinuteAddsFlow := by
  intro s hp ht
  have hexec : exec .accountingMinute s = .next (settle (accountMinute s)) := by
    show live s takeAccountingMinute = _
    rw [live_running hp, takeAccountingMinute, if_pos ht]
  obtain ⟨hline, hpeers, _, hqueue, hclock, hmode, hnv, _⟩ := (accountMinute_only s).settle_frame
  have hused : ∀ d, (filterOf (settle (accountMinute s)) d).used = if (fanOf s d).state = .running then
      min 4294967295 ((filterOf s d).used + (fanOf s d).targetFlow) else (filterOf s d).used := fun d => by
    rw [settle_filterOf, accountMinute_filterOf, ← account_used _ _ (minuteKept s d), minuteClosed_filterOf, accounted_filterOf]
    split <;> rfl
  have hfilters := minuteClosed_filters s
  have hsupply := hused .supply
  have hextract := hused .extract
  simp only [filterOf, fanOf] at hsupply hextract
  refine ⟨_, hexec, hsupply, hextract, ?_, ?_, ?_, minute_filterAccounted s, fun h => ?_, fun h => ?_, fun h => ?_,
    fun h => ?_, hline, hpeers, hqueue, hclock, hmode, hnv⟩
  · rw [settle_filters_minuteTimer]; exact (accountMinute_timer s).1
  · rw [settle_filters_minuteCount]; exact (accountMinute_timer s).2
  · rw [settle_filters_period]
    by_cases h : 14 ≤ s.filters.period
    · rw [accountMinute_eq, if_pos h, if_pos h]; rfl
    · rw [if_neg h]; exact (accountMinute_inside (not_le.mp h)).1
  · rw [settle_filters_save, settle_filter_supply, settle_filter_extract, accountMinute_save]
    have hsupply := accountMinute_filterOf s .supply
    have hextract := accountMinute_filterOf s .extract
    simp only [filterOf] at hsupply hextract
    rw [hsupply, hextract, minuteClosed_hour h]
    have hsave := closeHours_save (accounted s)
    have htrim : (closeHours (accounted s)).filters.trim = s.filters.trim := by rw [closeHours_filters]; rfl
    rw [workingRecord, htrim] at hsave
    exact hsave
  · rw [settle_filters_save, accountMinute_save, minuteClosed_minute (not_le.mpr h), formStates_filters]
    rfl
  · refine periodEnded_of (u := minuteClosed s) ?_ ?_ ?_ ?_ ?_ ?_
    · exact (minuteClosed_only s).sensors
    · rw [hfilters]
    · rw [hfilters]
    · rw [hfilters]
    · exact (minuteClosed_only s).unsteady
    · rw [accountMinute_eq, if_pos h]
  · obtain ⟨_, htrim, hfloor, hspoiled⟩ := accountMinute_inside h
    rw [settle_filters_trim, settle_filters_fromFloor, htrim, hfloor, settle_spoiled, hspoiled, Bool.or_eq_true, unsteady_iff]
    exact ⟨rfl, rfl, Iff.rfl⟩

end Sys2Proof.Machine
end

section
/-! SUPPORT. The nonvolatile record at its writes and at the restore, and the two requests of a filter: the statements O44 and
O45. -/

namespace Sys2Proof.Machine

-- One proof after the other, so that the check of the whole text stays within its limit of threads.
set_option Elab.async false

/-! ### The restore (R164) -/

/-- What the nonvolatile record gives of one filter. -/
def restoredOf (s : State) (d : Side) : Filter :=
  if s.nv.good then
    match d with
    | .supply => s.nv.content.supply.restored
    | .extract => s.nv.content.extract.restored
  else .lost

/-- The state with the two records read back, before their states are formed. -/
def readBack (s : State) : State :=
  if s.nv.good then
    { s with filters := { s.filters with
      supply := s.nv.content.supply.restored, extract := s.nv.content.extract.restored, trim := s.nv.content.trim,
      restored := true } }
  else
    requestSave (restartTrim (raise .nvLost { s with filters := { s.filters with
      supply := .lost, extract := .lost, restored := true } }))

theorem restoreRecord_eq (s : State) : restoreRecord s = remind (formStates (readBack s)) := by
  unfold restoreRecord readBack
  split <;> rfl

theorem readBack_good {s : State} (h : s.nv.good = true) : readBack s = { s with filters := { s.filters with
    supply := s.nv.content.supply.restored, extract := s.nv.content.extract.restored, trim := s.nv.content.trim,
    restored := true } } := if_pos h

theorem readBack_bad {s : State} (h : s.nv.good = false) : readBack s =
    requestSave (restartTrim (raise .nvLost { s with filters := { s.filters with
      supply := .lost, extract := .lost, restored := true } })) := if_neg (by simp [h])

theorem readBack_only (s : State) : FilterOnly s (readBack s) := by
  unfold readBack
  split
  · rfl
  · exact FilterOnly.trans (u := restartTrim (raise .nvLost { s with filters := { s.filters with
      supply := .lost, extract := .lost, restored := true } })) rfl (requestSave_only _)

theorem restoreRecord_only (s : State) : FilterOnly s (restoreRecord s) := by
  rw [restoreRecord_eq]
  exact (readBack_only s).trans ((formStates_only _).trans (remind_only _))

theorem readBack_filterOf (s : State) (d : Side) : filterOf (readBack s) d = restoredOf s d := by
  unfold readBack restoredOf
  split
  · cases d <;> rfl
  · rw [requestSave_filterOf]
    cases d <;> rfl

/-- Both records after the restore (R152, R158, R164). -/
theorem restoreRecord_filterOf (s : State) (d : Side) : filterOf (restoreRecord s) d =
    ((restoredOf s d).formed (formedState s (restoredOf s d))).reminded := by
  rw [restoreRecord_eq, remind_filterOf, formStates_filterOf, readBack_filterOf, (readBack_only s).formedState]

/-- Beside the records the forming of the states and the reminder leave the filter unit as the record was read back. -/
theorem restoreRecord_rest (s : State) : (restoreRecord s).filters = { (readBack s).filters with
    supply := (restoreRecord s).filters.supply, extract := (restoreRecord s).filters.extract } := by
  rw [restoreRecord_eq, remind_filters, formStates_filters]

theorem readBack_restored (s : State) : (readBack s).filters.restored = true := by
  unfold readBack
  split
  · rfl
  · rw [requestSave_filters]
    rfl

theorem restoredOf_notice (s : State) (d : Side) : (restoredOf s d).notice = false := by
  unfold restoredOf
  split
  · cases d <;> rfl
  · rfl

theorem restoredOf_bad {s : State} (h : s.nv.good = false) (d : Side) : restoredOf s d = .lost := if_neg (by simp [h])

theorem restoreRecord_notice {s : State} (d : Side) (h : (filterOf (restoreRecord s) d).notice = true) :
    raised .filterNotice (restoreRecord s) = true := by
  rw [restoreRecord_eq] at h ⊢
  exact remind_formStates_notice d (by rw [readBack_filterOf]; exact restoredOf_notice s d) h

theorem restore_formed (s : State) : formedAtRestore (settle (restoreRecord s)) := by
  intro d
  extract_lets f
  have hf : f = ((restoredOf s d).formed (formedState s (restoredOf s d))).reminded := by
    rw [← restoreRecord_filterOf]
    exact settle_filterOf _ _
  obtain ⟨_, hpeers, hjoin, _⟩ := (restoreRecord_only s).settle_frame
  refine ⟨?_, ?_, fun h => settle_keeps _ _ (restoreRecord_notice d (by rw [restoreRecord_filterOf, ← hf]; exact h))⟩
  · rw [formedState_congr hpeers (by rw [hjoin]), hf, formedState_reminded, formedState_formed]
    rfl
  · rw [← needsCare_iff, hf, reminded_notice, restoredOf_notice]
    exact ⟨fun h => h.resolve_left (by simp), .inr⟩

theorem saved_formed (f : Filter) (x : FilterState) : (f.formed x).reminded.saved = f.saved := rfl

theorem saved_restored (n : NvFilter) : n.restored.saved = n := rfl

/-- A record whose history was lost is UNKNOWN with its notice up (R164). -/
theorem formedState_lost (s : State) : formedState s .lost = .unknown := by
  have hlife : filterLife s.join.terms .lost = 0 := by simp [filterLife, Filter.lost, Filter.start]
  rw [formedState, hlife]
  rfl

/-- The restore at a port that owes no reply (R164). -/
theorem exec_restore {s : State} (hp : s.power = .running) (hr : s.filters.restored = false) (hs : s.filters.save = .idle) :
    exec .nvRestore s = .next (answerDeferred (settle (restoreRecord s))) := by
  show live s takeRestore = _
  rw [live_running hp, takeRestore, if_pos (by simp [hr, hs])]

theorem answerDeferred_none {s : State} (h : s.panel.reply = .none) : answerDeferred s = s := by
  unfold answerDeferred
  rw [h]

theorem answerDeferred_ack {s : State} {b : Byte} (h : s.panel.reply = .deferred (.ack b)) : answerDeferred s = answerAck b s := by
  unfold answerDeferred
  rw [h]

theorem answerDeferred_reset {s : State} {b : Byte} (h : s.panel.reply = .deferred (.reset b)) :
    answerDeferred s = answerReset b s := by
  unfold answerDeferred
  rw [h]

/-- Settles O44. -/
theorem recordSavedAndRestored : Obligations.RecordSavedAndRestored := by
  intro s hp
  have hwrite : exec .nvWriteEnds s = .next (endWrite s) := live_running hp endWrite
  refine ⟨fun h => ?_, fun c h => ?_, fun c h => ?_, fun c => ⟨by simp [Nv.good, Nv.ofContent], rfl⟩, fun hr hs hpanel => ?_⟩
  · rw [hwrite, endWrite, h]
  · rw [hwrite, endWrite, h]
  · rw [hwrite, endWrite, h]
  have hexec : exec .nvRestore s = .next (settle (restoreRecord s)) := by
    rw [exec_restore hp hr hs, answerDeferred_none]
    rw [(restoreRecord_only s).settle_frame.2.2.2.2.2.2.2.1]
    exact hpanel
  obtain ⟨hline, _, _, _, hclock, _, hnv, _⟩ := (restoreRecord_only s).settle_frame
  have hrest := restoreRecord_rest s
  have hrestored : (settle (restoreRecord s)).filters.restored = true := by
    rw [settle_filters_restored, hrest]
    exact readBack_restored s
  have hsaved : ∀ d, (filterOf (settle (restoreRecord s)) d).saved = (restoredOf s d).saved := fun d => by
    rw [settle_filterOf, restoreRecord_filterOf, saved_formed]
  refine ⟨fun hg => ⟨_, hexec, hrestored, ?_, ?_, ?_, ?_, restore_formed s, hnv, hline, hclock⟩,
    fun hg => ⟨_, hexec, hrestored, ?_, ?_, ?_, ?_, ?_, ?_, restore_formed s, fun d => ?_, hnv, hline, hclock⟩⟩
  · refine (hsaved .supply).trans ?_
    rw [restoredOf, if_pos hg]; rfl
  · refine (hsaved .extract).trans ?_
    rw [restoredOf, if_pos hg]; rfl
  · rw [settle_filters_trim, hrest, readBack_good hg]
  · rw [settle_filters_save, hrest, readBack_good hg]; exact hs
  · refine settle_keeps _ _ ?_
    rw [restoreRecord_eq]
    refine (remind_free (m := {}) _).flags rfl _ ((formStates_free (m := {}) _).flags rfl _ ?_)
    rw [readBack_bad hg, requestSave_raised]
    exact raise_raised .nvLost _
  · refine (hsaved .supply).trans ?_
    rw [restoredOf_bad hg]; rfl
  · refine (hsaved .extract).trans ?_
    rw [restoredOf_bad hg]; rfl
  · rw [settle_filters_trim, hrest, readBack_bad hg, requestSave_filters]; rfl
  · rw [settle_filters_fromFloor, hrest, readBack_bad hg, requestSave_filters]; rfl
  · rw [settle_filters_save, settle_workingRecord, hrest, restoreRecord_eq, remind_workingRecord, formStates_workingRecord,
      readBack_bad hg, requestSave_workingRecord]
    dsimp only
    rw [requestSave_save]
    split
    next => rfl
    next c h => exact absurd (hs.symm.trans h) (by simp)
    next c h => exact absurd (hs.symm.trans h) (by simp)
  · rw [settle_filterOf, restoreRecord_filterOf, restoredOf_bad hg, formedState_lost]
    exact ⟨rfl, rfl⟩

/-! ### The two requests (R158, R159, R162) -/

theorem setFilter_filterOf (s : State) (d e : Side) (f : Filter) :
    filterOf (setFilter s d f) e = if e = d then f else filterOf s e := by cases d <;> cases e <;> rfl

/-- A new record is LEARNING, with no notice (R152, R159). -/
theorem formed_fresh (s : State) : Filter.fresh.formed (formedState s .fresh) = .fresh := by
  have hlife : filterLife s.join.terms .fresh = 0 := by simp [filterLife, Filter.fresh, Filter.start]
  have hstate : formedState s .fresh = .learning := by
    unfold formedState groupDue
    rw [hlife]
    rfl
  rw [hstate]
  rfl

/-- A reset puts the new record in place, restarts the trim and asks for a save (R159). -/
theorem resetFilter_eq (d : Side) (s : State) : resetFilter d s = requestSave (restartTrim (setFilter s d .fresh)) := by
  have hagain : setFilter (setFilter s d .fresh) d .fresh = setFilter s d .fresh := by cases d <;> rfl
  have hself : filterOf (setFilter s d .fresh) d = .fresh := by rw [setFilter_filterOf, if_pos rfl]
  unfold resetFilter
  dsimp only
  rw [hself, formed_fresh, hagain]

theorem resetFilter_only (d : Side) (s : State) : FilterOnly s (resetFilter d s) := by
  rw [resetFilter_eq]
  exact (setFilter_only s d _).trans ((restartTrim_only _).trans (requestSave_only _))

theorem resetFilter_filterOf (d e : Side) (s : State) :
    filterOf (resetFilter d s) e = if e = d then .fresh else filterOf s e := by
  rw [resetFilter_eq, requestSave_filterOf, ← setFilter_filterOf]
  cases e <;> rfl

theorem resetFilter_rest (d : Side) (s : State) : (resetFilter d s).filters.trim = s.join.terms.trimFloor ∧
    (resetFilter d s).filters.fromFloor = true ∧ (resetFilter d s).filters.spoiled = true ∧
    (resetFilter d s).filters.restored = s.filters.restored ∧
    saveRequested s.filters.save (resetFilter d s).filters.save (workingRecord (resetFilter d s)) := by
  rw [resetFilter_eq, requestSave_workingRecord]
  have hsave := saveRequested_of (s := restartTrim (setFilter s d .fresh)) rfl
  refine ⟨?_, ?_, ?_, ?_, ?_⟩
  · rw [requestSave_filters]; cases d <;> rfl
  · rw [requestSave_filters]; rfl
  · rw [requestSave_filters]; rfl
  · rw [requestSave_filters]; cases d <;> rfl
  · cases d <;> exact hsave

theorem filterOf_done (data : List Byte) (v : State) (d : Side) : filterOf (done data v) d = filterOf v d := by cases d <;> rfl

theorem refuse_filters (r : Reason) (v : State) : (refuse r v).filters = v.filters := rfl

theorem filterOf_refuse (r : Reason) (v : State) (d : Side) : filterOf (refuse r v) d = filterOf v d := by cases d <;> rfl

theorem workingRecord_done (data : List Byte) (v : State) : workingRecord (done data v) = workingRecord v := rfl

section
variable {b : Byte} {d : Side} (v : State)

theorem answerAck_some (h : sideOfByte b = some d) : answerAck b v =
    done [] (settle (setFilter v d { filterOf v d with notice := false })) := by
  unfold answerAck
  rw [h]

theorem answerReset_some (h : sideOfByte b = some d) : answerReset b v = done [] (settle (resetFilter d v)) := by
  unfold answerReset
  rw [h]

theorem answer_refused (h : 1 < b.toNat) : answerAck b v = refuse .range v ∧ answerReset b v = refuse .range v := by
  unfold answerAck answerReset
  rw [sideOfByte_none h]
  exact ⟨rfl, rfl⟩

/-- An acknowledged filter: its notice, and of the filter unit nothing else (R158). -/
theorem answerAck_filters (h : sideOfByte b = some d) :
    filterOf (answerAck b v) d = { filterOf v d with notice := false } ∧
    (∀ e ≠ d, filterOf (answerAck b v) e = filterOf v e) ∧ (answerAck b v).filters.trim = v.filters.trim ∧
    (answerAck b v).filters.fromFloor = v.filters.fromFloor ∧ (answerAck b v).filters.minuteCount = v.filters.minuteCount ∧
    (answerAck b v).filters.period = v.filters.period ∧ (answerAck b v).filters.save = v.filters.save ∧
    (answerAck b v).filters.restored = v.filters.restored := by
  have hrecord : ∀ e, filterOf (answerAck b v) e = if e = d then { filterOf v d with notice := false } else filterOf v e :=
    fun e => by rw [answerAck_some v h, filterOf_done, settle_filterOf, setFilter_filterOf]
  refine ⟨by rw [hrecord, if_pos rfl], fun e he => by rw [hrecord, if_neg he], ?_⟩
  simp only [answerAck_some v h, done_eq, sendReply_filters, settle_filters_trim, settle_filters_fromFloor,
    settle_filters_minuteCount, settle_filters_period, settle_filters_save, settle_filters_restored]
  cases d <;> exact ⟨rfl, rfl, rfl, rfl, rfl, rfl⟩

/-- A reset filter: a new record, the trim at its floor, a save asked for (R159, R162). -/
theorem answerReset_filters (h : sideOfByte b = some d) :
    filterOf (answerReset b v) d = .fresh ∧ (∀ e ≠ d, filterOf (answerReset b v) e = filterOf v e) ∧
    (answerReset b v).filters.trim = v.join.terms.trimFloor ∧ (answerReset b v).filters.fromFloor = true ∧
    (answerReset b v).filters.spoiled = true ∧ (answerReset b v).filters.restored = v.filters.restored ∧
    saveRequested v.filters.save (answerReset b v).filters.save (workingRecord (answerReset b v)) := by
  have hrecord : ∀ e, filterOf (answerReset b v) e = if e = d then .fresh else filterOf v e :=
    fun e => by rw [answerReset_some v h, filterOf_done, settle_filterOf, resetFilter_filterOf]
  obtain ⟨htrim, hfloor, hspoiled, hrestored, hsave⟩ := resetFilter_rest d v
  have hworking : workingRecord (answerReset b v) = workingRecord (resetFilter d v) := by
    rw [answerReset_some v h, workingRecord_done, settle_workingRecord]
  rw [hworking]
  refine ⟨by rw [hrecord, if_pos rfl], fun e he => by rw [hrecord, if_neg he], ?_⟩
  simp only [answerReset_some v h, done_eq, sendReply_filters, settle_filters_trim, settle_filters_fromFloor,
    settle_filters_save, settle_filters_restored, settle_spoiled, htrim, hfloor, hspoiled, hrestored, Bool.true_or, true_and]
  exact hsave

/-- What either answer leaves of the rest of the state. -/
theorem answer_frame {u : State} (h : FilterOnly v u) : (done [] (settle u)).nv = v.nv ∧ (done [] (settle u)).line = v.line ∧
    (done [] (settle u)).peers = v.peers ∧ (done [] (settle u)).join = v.join ∧ (done [] (settle u)).sensors = v.sensors ∧
    (done [] (settle u)).queue = v.queue ∧ (done [] (settle u)).clock = v.clock ∧ (done [] (settle u)).mode = v.mode ∧
    (done [] (settle u)).panel = { v.panel with reply := .sending { kind := .done, code := v.panel.code, data := [] } } := by
  obtain ⟨hline, hpeers, hjoin, hqueue, hclock, hmode, hnv, hpanel, hsensors⟩ := h.settle_frame
  simp only [done_eq, sendReply_nv, sendReply_line, sendReply_peers, sendReply_join, sendReply_sensors, sendReply_queue,
    sendReply_clock, sendReply_mode, hnv, hline, hpeers, hjoin, hsensors, hqueue, hclock, hmode, true_and]
  rw [sendReply, hpanel]

end

theorem filterRequests_held (s : State) (b : Byte) (h : portFree s) :
    (s.filters.restored = false →
      exec (.filterAck b) s = .next { s with panel := { s.panel with
        phase := .sum, code := 6, length := 1, data := [b], reply := .deferred (.ack b) } } ∧
      exec (.filterReset b) s = .next { s with panel := { s.panel with
        phase := .sum, code := 7, length := 1, data := [b], reply := .deferred (.reset b) } }) ∧
    (s.filters.restored = true → exec (.filterAck b) s = .next (answerAck b (holdRequest 6 [b] s)) ∧
      exec (.filterReset b) s = .next (answerReset b (holdRequest 7 [b] s))) := by
  have hack : exec (.filterAck b) s = .next (deferOr (.ack b) (answerAck b) (holdRequest 6 [b] s)) := exec_request h rfl
  have hreset : exec (.filterReset b) s = .next (deferOr (.reset b) (answerReset b) (holdRequest 7 [b] s)) := exec_request h rfl
  rw [hack, hreset]
  refine ⟨fun hr => ?_, fun hr => ?_⟩
  · rw [deferOr, if_neg (by exact (by simpa using hr)), deferOr, if_neg (by exact (by simpa using hr))]
    exact ⟨rfl, rfl⟩
  · rw [deferOr, if_pos (by exact hr), deferOr, if_pos (by exact hr)]
    exact ⟨rfl, rfl⟩

/-- The restore does not read the port. -/
theorem restoreRecord_panel (s : State) (p : Panel) :
    (∀ e, filterOf (settle (restoreRecord s)) e = filterOf (settle (restoreRecord { s with panel := p })) e) ∧
    (settle (restoreRecord s)).filters.trim = (settle (restoreRecord { s with panel := p })).filters.trim ∧
    (settle (restoreRecord s)).filters.save = (settle (restoreRecord { s with panel := p })).filters.save := by
  have hread : (readBack { s with panel := p }).filters = (readBack s).filters := by
    cases hg : s.nv.good
    · rw [readBack_bad hg, readBack_bad (s := { s with panel := p }) hg, requestSave_filters, requestSave_save,
        requestSave_filters (restartTrim (raise .nvLost { s with filters := { s.filters with
          supply := .lost, extract := .lost, restored := true } })), requestSave_save]
      rfl
    · rw [readBack_good hg, readBack_good (s := { s with panel := p }) hg]
  refine ⟨fun e => ?_, ?_, ?_⟩
  · rw [settle_filterOf, settle_filterOf, restoreRecord_filterOf, restoreRecord_filterOf]
    rfl
  · rw [settle_filters_trim, settle_filters_trim, restoreRecord_rest s, restoreRecord_rest { s with panel := p }, hread]
  · rw [settle_filters_save, settle_filters_save, restoreRecord_rest s, restoreRecord_rest { s with panel := p }, hread]

/-- Settles O45. -/
theorem filterRequests : Obligations.FilterRequests := by
  refine ⟨fun s b d h => ?_, fun s b d hp hr hs => ?_⟩
  · obtain ⟨hdefer, hanswer⟩ := filterRequests_held s b h
    refine ⟨hdefer, fun hr hb => ?_, fun hr hb => ⟨_, (hanswer hr).1, ?_⟩, fun hr hb => ⟨_, (hanswer hr).2, ?_⟩⟩
    · rw [(hanswer hr).1, (hanswer hr).2, (answer_refused _ hb).1, (answer_refused _ hb).2]
      exact ⟨rfl, rfl⟩
    · obtain ⟨hself, hother, htrim, hfloor, hcount, hperiod, hsave, _⟩ := answerAck_filters (holdRequest 6 [b] s) hb
      have hframe := answer_frame _ (setFilter_only (holdRequest 6 [b] s) d { filterOf (holdRequest 6 [b] s) d with notice := false })
      rw [← answerAck_some _ hb] at hframe
      obtain ⟨hnv, hline, hpeers, hjoin, hsensors, hqueue, hclock, hmode, hpanel⟩ := hframe
      refine ⟨hself.trans (by cases d <;> rfl), fun e he => (hother e he).trans (by cases e <;> rfl), htrim, hfloor, hcount,
        hperiod, hsave, hnv, hpanel, hline, hpeers, hjoin, hsensors, hqueue, hclock, hmode⟩
    · obtain ⟨hself, hother, htrim, hfloor, hspoiled, _, hsave⟩ := answerReset_filters (holdRequest 7 [b] s) hb
      have hframe := answer_frame _ (resetFilter_only d (holdRequest 7 [b] s))
      rw [← answerReset_some _ hb] at hframe
      obtain ⟨hnv, hline, hpeers, hjoin, _, hqueue, hclock, hmode, hpanel⟩ := hframe
      exact ⟨hself, fun e he => (hother e he).trans (by cases e <;> rfl), htrim, hfloor, hspoiled, hsave, hnv, hpanel, hline,
        hpeers, hjoin, hqueue, hclock, hmode⟩
  · have hexec : exec .nvRestore s = .next (answerDeferred (settle (restoreRecord s))) := exec_restore hp hr hs
    have hquiet : exec .nvRestore { s with panel := { s.panel with reply := .none } } =
        .next (settle (restoreRecord { s with panel := { s.panel with reply := .none } })) := by
      rw [exec_restore (s := { s with panel := { s.panel with reply := .none } }) hp hr hs, answerDeferred_none]
      rw [(restoreRecord_only _).settle_frame.2.2.2.2.2.2.2.1]
    have hrestored : ∀ v, (settle (restoreRecord v)).filters.restored = true := fun v => by
      rw [settle_filters_restored, restoreRecord_rest]
      exact readBack_restored v
    obtain ⟨hrecord, htrim, hsave⟩ := restoreRecord_panel s { s.panel with reply := .none }
    obtain ⟨_, _, hjoin, _, _, _, _, hpanel, _⟩ := (restoreRecord_only s).settle_frame
    refine ⟨_, hquiet, hrestored _, (restoreRecord_only _).settle_frame.2.2.2.2.2.2.2.1, fun h hb => ?_, fun h hb => ?_,
      fun h hb => ?_⟩
    · have hrefused : answerDeferred (settle (restoreRecord s)) = refuse .range (settle (restoreRecord s)) := by
        rcases h with h | h
        · rw [answerDeferred_ack (by rw [hpanel]; exact h), (answer_refused _ hb).1]
        · rw [answerDeferred_reset (by rw [hpanel]; exact h), (answer_refused _ hb).2]
      rw [hrefused] at hexec
      refine ⟨_, hexec, fun e => by rw [filterOf_refuse, hrecord], ?_⟩
      rw [refuse_filters, refuse, sendReply, hpanel]
      exact ⟨htrim, hsave, hrestored s, rfl⟩
    · rw [answerDeferred_ack (by rw [hpanel]; exact h)] at hexec
      obtain ⟨hself, hother, htrim', _, _, _, hsave', hrestored'⟩ := answerAck_filters (settle (restoreRecord s)) hb
      have hframe := answer_frame _ (setFilter_only (settle (restoreRecord s)) d
        { filterOf (settle (restoreRecord s)) d with notice := false })
      rw [← answerAck_some _ hb, hpanel] at hframe
      obtain ⟨_, _, _, _, _, _, _, _, hpanel'⟩ := hframe
      exact ⟨_, hexec, by rw [hself, hrecord], fun e he => (hother e he).trans (hrecord e), htrim'.trans htrim,
        hsave'.trans hsave, hrestored'.trans (hrestored s), hpanel'⟩
    · rw [answerDeferred_reset (by rw [hpanel]; exact h)] at hexec
      obtain ⟨hself, hother, htrim', hfloor', _, hrestored', hsave'⟩ := answerReset_filters (settle (restoreRecord s)) hb
      have hframe := answer_frame _ (resetFilter_only d (settle (restoreRecord s)))
      rw [← answerReset_some _ hb, hpanel] at hframe
      obtain ⟨_, _, _, _, _, _, _, _, hpanel'⟩ := hframe
      exact ⟨_, hexec, hself, fun e he => (hother e he).trans (hrecord e), htrim'.trans (by rw [hjoin]), hfloor',
        by rw [← hsave]; exact hsave', hrestored'.trans (hrestored s), hpanel'⟩

end Sys2Proof.Machine
end

section
/-! SUPPORT. The minutes and the slew of the clock, the source's report and the clock's requests: the statements O46, O47 and
O48. -/

namespace Sys2Proof.Machine

-- One proof after the other, so that the check of the whole text stays within its limit of threads.
set_option Elab.async false

/-! ### Minute evaluations (R60, R172, R173) -/

theorem evaluateMinute_some {s : State} {m : SchedMode} (h : firedMode s.clock.schedule.toList s.clock.time = some m) :
    evaluateMinute s = { s with mode := { s.mode with scheduled := some m, held := none } } := by
  unfold evaluateMinute
  rw [h]

theorem evaluateMinute_none {s : State} (h : firedMode s.clock.schedule.toList s.clock.time = none) : evaluateMinute s = s := by
  unfold evaluateMinute
  rw [h]

/-- A minute evaluated in u, from a state with the same schedule and mode record. -/
theorem minuteEvaluated_of {s t u : State} {time : Nat} (hs : u.clock.schedule = s.clock.schedule) (htime : u.clock.time = time)
    (hm : u.mode = s.mode) (ht : t.mode = (evaluateMinute u).mode) : minuteEvaluated s t time := by
  subst htime
  refine ⟨fun m h => ?_, fun h => ?_⟩
  · rw [ht, evaluateMinute_some (by rw [hs]; exact h), hm]
  · rw [ht, evaluateMinute_none (by rw [hs]; exact h), hm]

/-- A minute entered on its whole multiple of 60 is the next second of the week. -/
theorem nextMinute {time : Nat} (h : (time + 1) % 60 = 0) : (time / 60 + 1) * 60 = time + 1 := by omega

/-- The state whose clock stands at the minute just entered. -/
def entered (s : State) : State := { s with clock := { s.clock with time := (s.clock.time + 1) % 604800, sub := 0 } }

theorem enterMinute_eq {s : State} (h : (s.clock.time + 1) % 60 = 0) : enterMinute s = evaluateMinute (entered s) := by
  rw [enterMinute, nextMinute h]
  rfl

theorem minuteDue_iff (s : State) : minuteDue s = true ↔
    s.clock.withhold = 0 ∧ 63 ≤ s.clock.sub ∧ (s.clock.time + 1) % 60 = 0 := by
  simp [minuteDue, and_assoc]

theorem exec_minute {s : State} (hp : s.power = .running) (h : minuteDue s = true) :
    exec .minuteEntered s = .next (settle (enterMinute s)) := by
  show live s takeMinuteEntered = _
  rw [live_running hp, takeMinuteEntered, if_pos h]

theorem exec_minute_undue {s : State} (h : minuteDue s = false) : exec .minuteEntered s = .next s := by
  show live s takeMinuteEntered = _
  exact live_same (if_neg (by simp [h]))

theorem setClock_clock (time sub : Nat) (s : State) :
    (setClock time sub s).clock = { s.clock with time := time, sub := sub, slew := 0, withhold := 0 } := by rw [setClock_eq]

/-- The highest-indexed entry that matches gives the mode (R172). -/
theorem foldl_fired_none {time : Nat} (best : Option SchedMode) {entries : List (Option SchedEntry)}
    (h : ∀ x, some x ∈ entries → x.fires time = false) :
    entries.foldl (fun best e => match e with
      | none => best
      | some e => if e.fires time then some e.mode else best) best = best := by
  induction entries with
  | nil => rfl
  | cons x xs ih =>
    have hx := ih fun y hy => h y (List.mem_cons_of_mem _ hy)
    cases x with
    | none => exact hx
    | some e =>
      rw [List.foldl_cons]
      simpa [h e (List.mem_cons_self ..)] using hx

theorem firedMode_none {entries : List (Option SchedEntry)} {time : Nat} (h : ∀ x, some x ∈ entries → x.fires time = false) :
    firedMode entries time = none := foldl_fired_none none h

theorem firedMode_last (entries : List (Option SchedEntry)) {e : SchedEntry} {after : List (Option SchedEntry)} {time : Nat}
    (he : e.fires time = true) (ha : ∀ x, some x ∈ after → x.fires time = false) :
    firedMode (entries ++ some e :: after) time = some e.mode := by
  unfold firedMode
  rw [List.foldl_append, List.foldl_cons]
  refine (foldl_fired_none _ ha).trans ?_
  simp [he]

theorem fires_iff (e : SchedEntry) (time : Nat) : e.fires time = true ↔
    e.days.getLsbD (time / 86400) = true ∧ (e.hourOn = false ∨ e.hour = time % 86400 / 3600) ∧
    (e.minuteOn = false ∨ e.minute = time % 3600 / 60) := by
  simp [SchedEntry.fires, and_assoc]

/-! ### The slew (R169) -/

theorem exec_slew {s : State} (hp : s.power = .running) : exec .slewSecond s = .next (settle (slewOnce s)) := by
  show live s (fun s => settle (slewOnce s)) = _
  rw [live_running hp]

theorem slewOnce_fast {s : State} (h : 0 < s.clock.slew) : slewOnce s =
    { advanceClock s with clock := { (advanceClock s).clock with slew := (advanceClock s).clock.slew - 1 } } := if_pos h

theorem advanceClock_within {s : State} (h : s.clock.sub < 63) :
    advanceClock s = { s with clock := { s.clock with sub := s.clock.sub + 1 } } := if_pos h

theorem advanceClock_second {s : State} (h : 63 ≤ s.clock.sub) (hm : (s.clock.time + 1) % 60 ≠ 0) :
    advanceClock s = { s with clock := { s.clock with time := s.clock.time + 1, sub := 0 } } := by
  rw [advanceClock, if_neg (not_lt.mpr h), if_neg hm]

theorem advanceClock_minute {s : State} (h : 63 ≤ s.clock.sub) (hm : (s.clock.time + 1) % 60 = 0) :
    advanceClock s = evaluateMinute (entered s) := by
  rw [advanceClock, if_neg (not_lt.mpr h), if_pos hm, enterMinute_eq hm]

theorem slewSecond_holds {s : State} (hp : s.power = .running) :
    (0 < s.clock.slew → s.clock.sub < 63 → ∃ t, exec .slewSecond s = .next t ∧
      t.clock = { s.clock with sub := s.clock.sub + 1, slew := s.clock.slew - 1 } ∧ t.mode = s.mode ∧
      sameBase t { s with clock := t.clock }) ∧
    (0 < s.clock.slew → 63 ≤ s.clock.sub → (s.clock.time + 1) % 60 ≠ 0 → ∃ t, exec .slewSecond s = .next t ∧
      t.clock = { s.clock with time := s.clock.time + 1, sub := 0, slew := s.clock.slew - 1 } ∧ t.mode = s.mode) ∧
    (0 < s.clock.slew → 63 ≤ s.clock.sub → (s.clock.time + 1) % 60 = 0 → ∃ t, exec .slewSecond s = .next t ∧
      t.clock = { s.clock with time := (s.clock.time + 1) % 604800, sub := 0, slew := s.clock.slew - 1 } ∧
      minuteEvaluated s t t.clock.time) ∧
    (s.clock.slew < 0 → ∃ t, exec .slewSecond s = .next t ∧
      t.clock = { s.clock with slew := s.clock.slew + 1, withhold := s.clock.withhold + 1 } ∧ t.mode = s.mode) ∧
    (s.clock.slew = 0 → ∃ t, exec .slewSecond s = .next t ∧ t.clock = s.clock ∧ t.mode = s.mode) := by
  refine ⟨fun h h1 => ⟨_, exec_slew hp, ?_⟩, fun h h1 h2 => ⟨_, exec_slew hp, ?_⟩, fun h h1 h2 => ⟨_, exec_slew hp, ?_⟩,
    fun h => ⟨_, exec_slew hp, ?_⟩, fun h => ⟨_, exec_slew hp, ?_⟩⟩
  · rw [slewOnce_fast h, advanceClock_within h1]
    exact ⟨settle_clock _, settle_mode _, by simp [sameBase]⟩
  · rw [slewOnce_fast h, advanceClock_second h1 h2]
    exact ⟨settle_clock _, settle_mode _⟩
  · rw [slewOnce_fast h, advanceClock_minute h1 h2, settle_clock]
    refine ⟨by dsimp only; rw [evaluateMinute_clock]; rfl, minuteEvaluated_of (u := entered s) rfl ?_ rfl (settle_mode _)⟩
    dsimp only
    rw [evaluateMinute_clock]
  · rw [slewOnce, if_neg (by omega), if_pos h]
    exact ⟨settle_clock _, settle_mode _⟩
  · rw [slewOnce, if_neg (by omega), if_neg (by omega)]
    exact ⟨settle_clock _, settle_mode _⟩

/-- Settles O46. -/
theorem minutesAndSlew : Obligations.MinutesAndSlew := by
  refine ⟨⟨fun s hp => ⟨fun h => ⟨_, exec_minute hp ((minuteDue_iff s).mpr h), ?_⟩, fun h => ?_, fun time sub hsub => ?_⟩,
    fun entries e after time he ha => firedMode_last entries he ha, fun entries time h => firedMode_none h, fires_iff⟩,
    fun s hp => slewSecond_holds hp⟩
  · rw [enterMinute_eq h.2.2]
    refine ⟨?_, ?_, ?_⟩
    · rw [settle_clock, evaluateMinute_clock]; rfl
    · exact minuteEvaluated_of (u := entered s) rfl (by rw [settle_clock, evaluateMinute_clock]) rfl (settle_mode _)
    · rw [settle_line, settle_peers, settle_queue, settle_join, settle_nv, settle_panel, evaluateMinute_eq]
      exact ⟨rfl, rfl, rfl, rfl, rfl, rfl⟩
  · exact exec_minute_undue (by rw [← Bool.not_eq_true, minuteDue_iff]; exact h)
  · refine exec_minute_undue ?_
    rw [← Bool.not_eq_true, minuteDue_iff, setClock_clock]
    rintro ⟨_, h, _⟩
    exact absurd h (not_le.mpr hsub)

/-! ### The clock set (R168, R170, R173) -/

/-- A time set evaluates the minute it lands in when that is another. -/
theorem setClock_landing {s u t : State} {time sub : Nat} (hs : u.clock.schedule = s.clock.schedule)
    (htime : u.clock.time = s.clock.time) (hm : u.mode = s.mode) (ht : t.mode = (setClock time sub u).mode) :
    landingEvaluated s t time := by
  refine ⟨fun h => ?_, fun h => ?_⟩
  · refine minuteEvaluated_of (u := { u with clock := { u.clock with time := time, sub := sub, slew := 0, withhold := 0 } })
      hs rfl hm ?_
    rw [ht, setClock, if_neg (by rw [htime]; exact h)]
  · rw [ht, setClock, if_pos (by rw [htime]; exact h)]
    exact hm

/-! ### The source's report (R167, R168) -/

/-- A usable report as the clock takes it, by its source and its difference. -/
theorem clockReport_cases (j : Station) (r : Report) (v : State) :
    let d := timeDifference r.time v.clock.time
    (sourceNow v ≠ some j → clockReport j r v = formSource v) ∧
    (sourceNow v = some j → d = 0 → clockReport j r v = formSource v) ∧
    (sourceNow v = some j → d ≠ 0 → -2 ≤ d → d ≤ 2 → v.clock.slew = 0 →
      clockReport j r v = { formSource v with clock := { (formSource v).clock with slew := d * 64 } }) ∧
    (sourceNow v = some j → -2 ≤ d → d ≤ 2 → v.clock.slew ≠ 0 → clockReport j r v = formSource v) ∧
    (sourceNow v = some j → d < -2 ∨ 2 < d → clockReport j r v = setClock r.time 32 (formSource v)) := by
  intro d
  have hform : ∀ w, clockReport j r v = w ↔ (if sourceNow v = some j then
      if d = 0 then formSource v
      else if -2 ≤ d && d ≤ 2 then
        if v.clock.slew = 0 then { formSource v with clock := { (formSource v).clock with slew := d * 64 } } else formSource v
      else setClock r.time 32 (formSource v)
    else formSource v) = w := fun w => Iff.rfl
  simp only [hform, Bool.and_eq_true, decide_eq_true_eq]
  refine ⟨fun h => if_neg h, fun h h1 => ?_, fun h h1 h2 h3 h4 => ?_, fun h h1 h2 h3 => ?_, fun h h1 => ?_⟩
  · rw [if_pos h, if_pos h1]
  · rw [if_pos h, if_neg h1, if_pos ⟨h2, h3⟩, if_pos h4]
  · rw [if_pos h, if_neg h3, if_pos (c := -2 ≤ d ∧ d ≤ 2) ⟨h1, h2⟩, ite_self]
  · rw [if_pos h, if_neg (by omega), if_neg (by omega)]

theorem timeDifference_near (reported own : Nat) : -302400 ≤ timeDifference reported own ∧
    timeDifference reported own ≤ 302399 ∧ (timeDifference reported own - ((reported : Int) - own)) % 604800 = 0 := by
  unfold timeDifference
  dsimp only
  split <;> omega

/-- The state in which the clock takes a report heard. -/
def reportJudged (j : Station) (r : Report) (s : State) : State := evaluate (queueReport j r (recordReport j r (heard j s)))

theorem reportJudged_clock (j : Station) (r : Report) (s : State) :
    (reportJudged j r s).clock = s.clock ∧ (reportJudged j r s).mode = s.mode := by
  simp [reportJudged, queueReport, recordReport]

theorem reportSettled_clock (j : Station) (r : Report) (s : State) :
    (reportSettled j r (heard j s)).clock = (clockReport j r (reportJudged j r s)).clock ∧
    (reportSettled j r (heard j s)).mode = (clockReport j r (reportJudged j r s)).mode := by
  refine ⟨(reportSettled_rest j r (heard j s)).2.2.1, ?_⟩
  unfold reportSettled
  rw [settle_mode, filterReport_eq, (evaluateSkew_rest _).2.2.2.2.2]
  rfl

/-- Settles O47. -/
theorem sourceReportMovesTheClock : Obligations.SourceReportMovesTheClock := by
  refine ⟨fun s j p r hp hr ho hd => ?_, fun reported own _ _ => timeDifference_near reported own⟩
  intro d
  have hexec : exec (.statusTaken j p) s = .next (reportSettled j r (heard j s)) := by
    rw [exec_taken (deliver := deliverStatus j p) rfl hp hr ho, deliverStatus_usable hd]
    rfl
  obtain ⟨hclock, hmode⟩ := reportJudged_clock j r s
  obtain ⟨htclock, htmode⟩ := reportSettled_clock j r s
  have hcases := clockReport_cases j r (reportJudged j r s)
  generalize reportJudged j r s = v at *
  rw [hclock] at hcases
  obtain ⟨hother, hlevel, hslew, hrunning, hstep⟩ := hcases
  have hsource : (reportSettled j r (heard j s)).clock.source = sourceNow v := by rw [htclock, clockReport_source]
  have hformed : (formSource v).clock = { s.clock with source := sourceNow v } := by rw [← hclock]; rfl
  refine ⟨_, hexec, ?_⟩
  rw [hsource, htclock, htmode]
  refine ⟨fun h => ?_, fun h h1 => ?_, fun h h1 h2 h3 h4 => ?_, fun h h1 h2 h3 => ?_, fun h h1 => ⟨?_, ?_⟩, fun h => ?_⟩
  · rw [hother h, hformed]
  · rw [hlevel h h1, hformed, h]
  · rw [hslew h h1 h2 h3 h4, hformed, h]
  · rw [hrunning h h1 h2 h3, hformed, h]
  · rw [hstep h h1, setClock_clock, hformed, h]
  · refine setClock_landing (u := formSource v) (sub := 32) (by rw [hformed]) (by rw [hformed]) hmode ?_
    rw [htmode, hstep h h1]
  · rw [← hmode]
    by_cases hs : sourceNow v = some j
    · obtain ⟨h1, h2⟩ := h.resolve_left (not_not.mpr hs)
      by_cases h0 : d = 0
      · rw [hlevel hs h0]; rfl
      by_cases hw : s.clock.slew = 0
      · rw [hslew hs h0 h1 h2 hw]; rfl
      · rw [hrunning hs h1 h2 hw]; rfl
    · rw [hother hs]; rfl

/-! ### The clock's requests (R170, R171) -/

theorem timeSet_holds {s : State} {time : BitVec 24} (h : portFree s) (ht : time.toNat ≤ 604799) (hs : s.clock.source = none) :
    ∃ t, exec (.timeSet time) s = .next t ∧ t.clock.time = time.toNat ∧ t.clock.sub = 0 ∧ t.clock.slew = 0 ∧
      t.clock.schedule = s.clock.schedule ∧ t.panel = answered s.panel 3 (le24 time.toNat) .done [] ∧
      landingEvaluated s t time.toNat ∧ t.line = s.line ∧ t.queue = s.queue ∧ t.peers = s.peers ∧ t.join = s.join := by
  have hexec : exec (.timeSet time) s = .next (done [] (settle (setClock time.toNat 0 (holdRequest 3 (le24 time.toNat) s)))) := by
    rw [exec_request h (owner := takeTimeSet time) (code := 3) (data := le24 time.toNat) rfl, takeTimeSet,
      if_neg (not_lt.mpr ht), if_neg (by rw [holdRequest_clock, hs]; simp)]
  have hpanel : (setClock time.toNat 0 (holdRequest 3 (le24 time.toNat) s)).panel = (holdRequest 3 (le24 time.toNat) s).panel := by
    rw [setClock_eq]
  refine ⟨_, hexec, ?_, ?_, ?_, ?_, done_settled hpanel [], ?_, ?_⟩
  · rw [done_eq, sendReply_clock, settle_clock, setClock_clock]
  · rw [done_eq, sendReply_clock, settle_clock, setClock_clock]
  · rw [done_eq, sendReply_clock, settle_clock, setClock_clock]
  · rw [done_eq, sendReply_clock, settle_clock, setClock_clock]; rfl
  · refine setClock_landing (u := holdRequest 3 (le24 time.toNat) s) (sub := 0) rfl rfl rfl ?_
    rw [done_eq, sendReply_mode, settle_mode]
  · rw [done_eq, sendReply_line, sendReply_queue, sendReply_peers, sendReply_join, settle_line, settle_queue, settle_peers,
      settle_join, setClock_eq]
    exact ⟨rfl, rfl, rfl, rfl⟩

/-- Settles O48. -/
theorem clockRequests : Obligations.ClockRequests := by
  refine ⟨fun s time h => ⟨fun ht => ?_, fun ht hs => ?_, fun ht hs => timeSet_holds h ht hs⟩,
    fun s index e h => ⟨fun hi x hx => ?_, fun hbad => ?_, fun hi => ?_, fun hi => ?_⟩⟩
  · rw [exec_request h (owner := takeTimeSet time) (code := 3) (data := le24 time.toNat) rfl, takeTimeSet, if_pos ht]
    rfl
  · rw [exec_request h (owner := takeTimeSet time) (code := 3) (data := le24 time.toNat) rfl, takeTimeSet,
      if_neg (not_lt.mpr ht), if_pos (by rw [holdRequest_clock]; exact hs)]
    rfl
  · rw [exec_request h (owner := takeScheduleWrite index e) (code := 4) (data := index :: entryList e) rfl, takeScheduleWrite,
      dif_pos hi, hx]
    rfl
  · rw [exec_request h (owner := takeScheduleWrite index e) (code := 4) (data := index :: entryList e) rfl, takeScheduleWrite]
    by_cases hi : index.toNat < 8
    · rw [dif_pos hi, hbad.resolve_left (not_le.mpr hi)]
      rfl
    · rw [dif_neg hi]
      rfl
  · rw [exec_request h (owner := takeScheduleRead index) (code := 5) (data := [index]) rfl, takeScheduleRead, dif_pos hi]
    rfl
  · rw [exec_request h (owner := takeScheduleRead index) (code := 5) (data := [index]) rfl, takeScheduleRead,
      dif_neg (not_lt.mpr hi)]
    rfl

end Sys2Proof.Machine
end

section
/-! SUPPORT. The panel port: one request at a time, the requests for terms, a line test and the event flags, and the port's own
events: the statements O50, O51 and O53. -/

namespace Sys2Proof.Machine

-- One proof after the other, so that the check of the whole text stays within its limit of threads.
set_option Elab.async false

/-! ### One request at a time (R184 to R187) -/

/-- The block that takes a request, with what it makes of it. -/
def ownerOf : Instr → State → State
  | .statusRead => fun s => done (snapshot s) s
  | .modeSet mode minutes => takeModeSet mode minutes
  | .timeSet time => takeTimeSet time
  | .scheduleWrite index entry => takeScheduleWrite index entry
  | .scheduleRead index => takeScheduleRead index
  | .filterAck b => deferOr (.ack b) (answerAck b)
  | .filterReset b => deferOr (.reset b) (answerReset b)
  | .fanClear b => takeFanClear b
  | .peerRead b => takePeerRead b
  | .queueRead => fun s => done (queueData s) s
  | .termsSet p => takeTermsSet p
  | .lineTest seed count => takeLineTest seed count
  | .tallyRead => fun s => done (tallyData s) s
  | .eventsClear mask => takeEventsClear mask
  | .restart => takeRestart
  | _ => id

/-- Every request goes through the port, with the length R186 gives its code. -/
theorem requestOf_port {c : Instr} {code : Byte} {data : List Byte} (h : requestOf c = some (code, data)) (s : State) :
    exec c s = live s (panelRequest code data (ownerOf c)) ∧ requestLength code.toNat = some data.length := by
  cases c <;> cases h <;> exact ⟨rfl, rfl⟩

theorem panelRequest_owed {s : State} (code : Byte) (data : List Byte) (owner : State → State) (h : s.panel.reply ≠ .none) :
    panelRequest code data owner s = s := if_neg h

theorem panelRequest_waiting {s : State} (code : Byte) (data : List Byte) (owner : State → State) (h : s.panel.reply = .none)
    (hw : s.panel.restartWait.isSome = true) :
    panelRequest code data owner s = refuse .busyRestart (holdRequest code data s) := by
  rw [panelRequest, if_pos h, if_pos hw]

theorem requestLength_none (n : Nat) : requestLength n = none ↔ n = 0 ∨ 15 < n := by
  refine ⟨fun h => ?_, fun h => ?_⟩
  · by_contra hn
    have h1 : 1 ≤ n := by omega
    have h15 : n ≤ 15 := by omega
    interval_cases n <;> cases h
  · unfold requestLength
    split <;> first | omega | rfl

/-- Settles O50. -/
theorem portTakesOneRequestAtATime : Obligations.PortTakesOneRequestAtATime := by
  refine ⟨fun s c code data hp hc => ?_, requestLength_none⟩
  obtain ⟨hexec, hlength⟩ := requestOf_port hc s
  refine ⟨fun h => ?_, fun h hw => ?_, hlength⟩
  · rw [hexec, live_running hp, panelRequest_owed _ _ _ h]
  · rw [hexec, live_running hp, panelRequest_waiting _ _ _ h hw]
    rfl

/-! ### Terms, a line test, the event flags (R23, R53, R188) -/

theorem exec_termsSet {s : State} (p : TermsBytes) (h : portFree s) :
    exec (.termsSet p) s = .next (takeTermsSet p (holdRequest 11 (termsList p) s)) := exec_request h rfl

theorem exec_lineTest {s : State} (seed count : Byte) (h : portFree s) :
    exec (.lineTest seed count) s = .next (takeLineTest seed count (holdRequest 12 [seed, count] s)) := exec_request h rfl

theorem exec_eventsClear {s : State} (mask : BitVec 16) (h : portFree s) :
    exec (.eventsClear mask) s = .next (takeEventsClear mask (holdRequest 14 (le16 mask.toNat) s)) := exec_request h rfl

/-- A line test is refused for its count first, then for the line and the membership. -/
theorem takeLineTest_range {s : State} (seed : Byte) {count : Byte} (h : count.toNat < 1 ∨ 8 < count.toNat) :
    takeLineTest seed count s = refuse .range s := if_pos (by simpa using h)

theorem takeLineTest_line {s : State} (seed : Byte) {count : Byte} (h1 : 1 ≤ count.toNat) (h8 : count.toNat ≤ 8)
    (h : s.join.membership ≠ .joined ∨ s.line.condition ≠ .clear) : takeLineTest seed count s = refuse .line s := by
  rw [takeLineTest, if_neg (by simp only [Bool.or_eq_true, decide_eq_true_eq]; omega), if_pos]
  simpa [or_comm] using h

theorem takeLineTest_started {s : State} (seed : Byte) {count : Byte} (h1 : 1 ≤ count.toNat) (h8 : count.toNat ≤ 8)
    (hj : s.join.membership = .joined) (hc : s.line.condition = .clear) :
    takeLineTest seed count s = done [] (startRun seed count.toNat s) := by
  rw [takeLineTest, if_neg (by simp only [Bool.or_eq_true, decide_eq_true_eq]; omega), if_neg (by simp [hj, hc])]

theorem startRun_joined {s : State} (seed : Byte) (count : Nat) (hj : s.join.membership = .joined)
    (hc : s.line.condition = .clear) : startRun seed count s = { s with
      line := { s.line with run := some { seed := seed, remaining := count }
                            sending := s.line.sending.map (fun f => { f with counted := false }) }
      out := { s.out with test := true } } := by
  simp [startRun, requestTest, permitted, hj, hc]

/-- A cleared flag is one of the mask's (R188). -/
theorem raised_clear (events : BitVec 14) (mask : BitVec 16) (i : Nat) (hi : i < 14) :
    (events &&& ~~~(mask.setWidth 14)).getLsbD i = (events.getLsbD i && !mask.getLsbD i) := by
  simp [hi]

theorem place_lt (g : EventFlag) : g.place < 14 := by cases g <;> decide

/-- Settles O51. -/
theorem termsTestAndEventRequests : Obligations.TermsTestAndEventRequests := by
  intro s p seed count mask h
  rw [exec_termsSet p h, exec_lineTest seed count h, exec_eventsClear mask h]
  refine ⟨fun hm => ?_, fun hm hd => ?_, fun x hm hd => ?_, fun hn => ?_, fun h1 h8 hl => ?_, fun h1 h8 hj hc => ?_, fun hn => ?_,
    fun hn => ?_, by decide⟩
  · rw [takeTermsSet, if_neg (by exact hm)]
    rfl
  · rw [takeTermsSet, if_pos (by exact hm), hd]
    rfl
  · rw [takeTermsSet, if_pos (by exact hm), hd]
    rfl
  · rw [takeLineTest_range seed hn]
    rfl
  · rw [takeLineTest_line seed h1 h8 (by exact hl)]
    rfl
  · rw [takeLineTest_started seed h1 h8 (by exact hj) (by exact hc), startRun_joined seed _ (by exact hj) (by exact hc)]
    rfl
  · rw [takeEventsClear, if_pos hn]
    rfl
  · rw [takeEventsClear, if_neg (not_lt.mpr hn)]
    exact ⟨_, rfl, fun g => raised_clear _ _ _ (place_lt g), rfl⟩

/-! ### The port's own events (R180, R184, R185) -/

/-- What the port has assembled of a whole request of the given data. -/
theorem assemble_complete {code length sum : Byte} {data : List Byte} (hl : length.toNat ≤ 16) (hd : data.length = length.toNat) :
    assemble (0xA5 :: code :: length :: data ++ [sum]) = .complete code length data sum := by
  have hdrop : (data ++ [sum]).drop length.toNat = [sum] := by rw [← hd]; exact List.drop_left
  have htake : (data ++ [sum]).take length.toNat = data := by rw [← hd]; exact List.take_left
  have hlen : ¬ (data ++ [sum]).length < length.toNat := by rw [List.length_append, hd]; omega
  have hshape : assemble (0xA5 :: code :: length :: data ++ [sum]) =
      if 16 < length.toNat then .tooLong code length
      else if (data ++ [sum]).length < length.toNat then .waiting .data code length (data ++ [sum])
      else match (data ++ [sum]).drop length.toNat with
        | [] => .waiting .sum code length (data ++ [sum])
        | sum' :: _ => .complete code length ((data ++ [sum]).take length.toNat) sum' := rfl
  rw [hshape, if_neg (not_lt.mpr hl), if_neg hlen, hdrop, htake]

theorem assemble_tooLong {code length : Byte} (hl : 16 < length.toNat) : assemble [0xA5, code, length] = .tooLong code length := by
  have hshape : assemble [0xA5, code, length] = if 16 < length.toNat then .tooLong code length
      else if ([] : List Byte).length < length.toNat then .waiting .data code length []
      else match ([] : List Byte).drop length.toNat with
        | [] => .waiting .sum code length []
        | sum :: _ => .complete code length (([] : List Byte).take length.toNat) sum := rfl
  rw [hshape, if_pos hl]

/-- The port answers what it has assembled. -/
theorem exec_badFormat {s : State} {bytes : List Byte} {kind : ReplyKind} (hp : s.power = .running) (hr : s.panel.reply = .none)
    (hk : formatReply (assemble bytes) = some kind) :
    exec (.badFormat (bytes.map (fun b => { byte := b, stopGood := true }))) s =
      .next (sendReply kind [] (holdAssembly (assemble bytes) s)) := by
  show live s (answerFormat (panelBytes _)) = _
  rw [live_running hp, panelBytes_good, answerFormat, if_pos hr, hk]

theorem formatReply_complete (code length sum : Byte) (data : List Byte) : formatReply (.complete code length data sum) =
    if sumByte (code :: length :: data) ≠ sum then some .badFormat
    else match requestLength code.toNat with
      | none => some .unknownRequest
      | some n => if length.toNat = n then none else some .badFormat := rfl

/-- A byte with a bad stop bit does not reach the port (R183). -/
theorem panelBytes_filter (chars : List RxChar) : panelBytes (chars.filter RxChar.stopGood) = panelBytes chars := by
  rw [panelBytes, List.filter_filter, panelBytes]
  simp only [Bool.and_self]

/-- Settles O53. -/
theorem portEvents : Obligations.PortEvents := by
  intro s hp received
  refine ⟨fun r hr hdue => ?_, fun bytes hr hpartial => ?_, fun code length sum data hr hl hd => ?_, fun code length hr hl => ?_,
    fun chars => ⟨?_, ?_⟩, fun hb => ?_⟩
  · show live s endReply = _
    rw [live_running hp, endReply, hr]
    exact congrArg _ (if_neg (by simp [hdue]))
  · show live s (dropPartial (panelBytes _)) = _
    rw [live_running hp, panelBytes_good, dropPartial, if_pos (by simp [hr, hpartial])]
    rfl
  · have hcomplete := assemble_complete (code := code) (sum := sum) hl hd
    have hanswer : ∀ kind, formatReply (.complete code length data sum) = some kind →
        exec (.badFormat (received (0xA5 :: code :: length :: data ++ [sum]))) s =
          .next { s with panel := { answered s.panel code data kind [] with length := length } } := fun kind hk => by
      rw [exec_badFormat hp hr (kind := kind) (by rw [hcomplete]; exact hk), hcomplete]
      rfl
    refine ⟨fun hs => hanswer _ ?_, fun hs hn => hanswer _ ?_, fun n hs hn hne => hanswer _ ?_⟩
    · rw [formatReply_complete, if_pos hs]
    · rw [formatReply_complete, if_neg (not_not.mpr hs), hn]
    · rw [formatReply_complete, if_neg (not_not.mpr hs), hn]
      exact if_neg hne
  · have hlong := assemble_tooLong (code := code) hl
    rw [exec_badFormat hp hr (kind := .badFormat) (by rw [hlong]; rfl), hlong]
    rfl
  · show live s (dropPartial (panelBytes _)) = live s (dropPartial (panelBytes _))
    rw [panelBytes_filter]
  · show live s (answerFormat (panelBytes _)) = live s (answerFormat (panelBytes _))
    rw [panelBytes_filter]
  · show live s toggleBlink = _
    rw [live_running hp, toggleBlink, if_pos hb]

end Sys2Proof.Machine
end

section
/-! SUPPORT. The restart: when it waits for a GIVE, when it takes effect, and what it keeps: the statement O52. -/

namespace Sys2Proof.Machine

-- One proof after the other, so that the check of the whole text stays within its limit of threads.
set_option Elab.async false

/-! ### What a restart leaves (R56, R68, R187) -/

/-- The state a restart composes: the base, with the flag of a fan newly FAILED. -/
def restartFlagged (s : State) : State :=
  raiseIf (newlyFailed s.supplyFan s.supplyFan.restarted || newlyFailed s.extractFan s.extractFan.restarted) .fanFailed
    (restartBase s)

theorem restartFlagged_eq (s : State) : restartFlagged s = { restartBase s with events := (restartFlagged s).events } := by
  unfold restartFlagged raiseIf
  split <;> rfl

/-- A fan across a restart: its attempts, and a state FAILED or STOPPED (R68). -/
theorem restarted_eq (f : Fan) : f.restarted = { Fan.start with
    state := if f.state = .failed ∨ (f.state = .stalled ∧ f.attempts = 5) then .failed else .stopped
    attempts := f.attempts } := by
  unfold Fan.restarted
  by_cases h : f.state = .failed ∨ (f.state = .stalled ∧ f.attempts = 5)
  · rw [if_pos h, if_pos (by simpa using h)]
  · rw [if_neg h, if_neg (by simpa using h)]
    rfl

theorem restarted_state (f : Fan) : f.restarted.state ≠ .running := by
  rw [restarted_eq]
  split <;> simp

theorem restartBase_effective (s : State) : effectiveMode (restartBase s) =
    if s.supplyFan.restarted.state = .failed ∨ s.extractFan.restarted.state = .failed then .fanFault else .normal := by
  have hfail : anyFanFailed (restartBase s) = true ↔
      s.supplyFan.restarted.state = .failed ∨ s.extractFan.restarted.state = .failed := by
    rw [anyFanFailed, Bool.or_eq_true, decide_eq_true_eq, decide_eq_true_eq]
    exact Iff.rfl
  have hmode : effectiveMode (restartBase s) = if anyFanFailed (restartBase s) = true then .fanFault else .normal := rfl
  rw [hmode]
  simp only [hfail]

theorem restartBase_lampLevel (s : State) : lampLevel (restartBase s) =
    if s.supplyFan.restarted.state = .failed ∨ s.extractFan.restarted.state = .failed then .steady else .off := by
  have hlevel : lampLevel (restartBase s) =
      if (decide (s.supplyFan.restarted.state = .failed) || decide (s.extractFan.restarted.state = .failed) || false || false) = true
      then .steady else .off := rfl
  rw [hlevel]
  simp only [Bool.or_false, Bool.or_eq_true, decide_eq_true_eq]

/-- A restart, whole. -/
theorem restartNow_parts (s : State) : restartNow s = { restartBase s with
    events := (restartFlagged s).events
    plan := { Plan.start with effective :=
      if s.supplyFan.restarted.state = .failed ∨ s.extractFan.restarted.state = .failed then .fanFault else .normal }
    lamp := if s.supplyFan.restarted.state = .failed ∨ s.extractFan.restarted.state = .failed then
      { level := .steady, on := true, timer := none } else Lamp.start } := by
  have hcomposed : composeOnce (restartFlagged s) = { restartBase s with
      events := (restartFlagged s).events
      plan := { Plan.start with effective := effectiveMode (restartBase s) } } := by
    rw [restartFlagged_eq]
    rfl
  have hmarks : ∀ (e : Mode), followMarks (followPreheater { restartBase s with
      events := (restartFlagged s).events, plan := { Plan.start with effective := e } }) = { restartBase s with
      events := (restartFlagged s).events, plan := { Plan.start with effective := e } } := fun _ => rfl
  have hlevel : ∀ (e : Mode), lampLevel { restartBase s with
      events := (restartFlagged s).events, plan := { Plan.start with effective := e } } = lampLevel (restartBase s) := fun _ => rfl
  show followOutputs (composeOnce (restartFlagged s)) = _
  rw [hcomposed, restartBase_effective, followOutputs, hmarks, followLamp, hlevel, restartBase_lampLevel]
  split
  · rfl
  · rfl

/-- The flags that a restart raises: FAN_FAILED for a fan newly FAILED, and no other (R187). -/
theorem restartNow_raised (s : State) :
    (∀ g, raised g s = true → raised g (restartNow s) = true) ∧ (∀ g, g ≠ .fanFailed → raised g (restartNow s) = raised g s) ∧
    ((newlyFailed s.supplyFan s.supplyFan.restarted || newlyFailed s.extractFan s.extractFan.restarted) = true →
      raised .fanFailed (restartNow s) = true) := by
  have hraised : ∀ g, raised g (restartNow s) = raised g (restartFlagged s) := fun g => by rw [restartNow_parts]; rfl
  refine ⟨fun g h => ?_, fun g h => ?_, fun h => ?_⟩
  · rw [hraised]
    exact raiseIf_keeps _ _ _ _ h
  · rw [hraised, restartFlagged, raiseIf]
    split
    · exact raised_raise_other h _
    · rfl
  · rw [hraised, restartFlagged, raiseIf, if_pos h]
    exact raise_raised _ _

theorem restartNow_fan (s : State) (d : Side) : fanOf (restartNow s) d = (fanOf s d).restarted := by
  rw [restartNow_parts]
  cases d <;> rfl

/-- A fan STALLED at five attempts is newly FAILED by the restart. -/
theorem newlyFailed_restarted {f : Fan} (h : f.state = .stalled) (ha : f.attempts = 5) : newlyFailed f f.restarted = true := by
  rw [restarted_eq, if_pos (.inr ⟨h, ha⟩)]
  simp [newlyFailed, h]

theorem restart_holds (s : State) :
     let t := restartNow s
     t.power = .running ∧ t.line = State.reset.line ∧ t.out = State.reset.out ∧ t.peers = State.reset.peers ∧
     t.join = State.reset.join ∧ t.mode = State.reset.mode ∧ t.stack = State.reset.stack ∧ t.frost = State.reset.frost ∧
     t.queue = State.reset.queue ∧ t.own = State.reset.own ∧ t.humid = State.reset.humid ∧
     t.sensors = State.reset.sensors ∧ t.panel = State.reset.panel ∧
     t.clock = { State.reset.clock with schedule := s.clock.schedule } ∧
     t.nv = s.nv ∧ t.torn = s.torn ∧ t.pending = s.pending ∧
     t.filters = { State.reset.filters with
       supply := { s.filters.supply with hourMinutes := 0, hourSum := 0, notice := false }
       extract := { s.filters.extract with hourMinutes := 0, hourSum := 0, notice := false }
       trim := s.filters.trim, save := s.filters.save } := by
  intro t
  rw [show t = _ from restartNow_parts s]
  exact ⟨rfl, rfl, rfl, rfl, rfl, rfl, rfl, rfl, rfl, rfl, rfl, rfl, rfl, rfl, rfl, rfl, rfl, rfl⟩

/-! ### Where a restart takes effect (R17, R22, R187) -/

theorem afterLine_gone {s : State} (h : s.panel.restartWait.isSome = true) : afterLine true s = restartNow s := by
  simp [afterLine, h]

theorem afterLine_kept (s : State) : afterLine false s = settle s := if_neg (by simp)

/-- A restart that took effect has the port and the membership of a start. -/
theorem restartNow_began (s : State) : (restartNow s).join.membership = .straps ∧ (restartNow s).panel.restartWait = none := by
  rw [restartNow_parts]
  exact ⟨rfl, rfl⟩

/-- A change to MUTED with no GIVE to withdraw leaves the wait running. -/
theorem muted_waits (cause : MutedCause) (s : State) : (settle (enterMuted cause s)).line.condition = .muted ∧
    (settle (enterMuted cause s)).out = .empty ∧ (settle (enterMuted cause s)).join = s.join ∧
    (settle (enterMuted cause s)).panel = s.panel := by
  refine ⟨by rw [settle_line, enterMuted_line], (settle_muted cause s).1, ?_, ?_⟩
  · rw [settle_join, (enterMuted_rest cause s).2.2.2.2.2]
  · rw [settle_panel, enterMuted_panel]

theorem mutedEndsWait_holds : mutedEndsWait := by
  refine ⟨fun s f hp hw hf => ?_, fun s own c hp hw hr ho hc => ?_⟩
  · have hfail : failDriver s = afterLine (pendAgain f.content s.out).give (enterMuted .driverFault (stopped s f)) := by
      simp only [failDriver, hf]
      rfl
    have hexec : exec .driverFault s =
        .next (afterLine (pendAgain f.content s.out).give (enterMuted .driverFault (stopped s f))) :=
      (live_running hp failDriver).trans (congrArg _ hfail)
    refine ⟨fun h => ?_, fun h1 h2 => ?_⟩
    · rw [(pendAgain_give f.content s.out).mpr h, afterLine_gone (by rw [enterMuted_panel]; exact hw)] at hexec
      exact ⟨_, hexec, restartNow_began _⟩
    · have hgive : (pendAgain f.content s.out).give = false := by
        rw [← Bool.not_eq_true, pendAgain_give]
        rintro (⟨v, hv⟩ | h)
        · exact h1 v hv
        · rw [h2] at h; cases h
      rw [hgive, afterLine_kept] at hexec
      exact ⟨_, hexec, muted_waits _ _⟩
  · obtain ⟨deliver, hframe, _⟩ := exec_frameFrom hc
    have hexec : exec c s = .next (afterLine s.out.give (enterMuted .duplicate (heard own s))) := by
      rw [hframe, live_running hp, takeFrame_own deliver hr ho, heard_out]
    refine ⟨fun h => ?_, fun h => ?_⟩
    · rw [h, afterLine_gone (by rw [enterMuted_panel, heard_panel]; exact hw)] at hexec
      exact ⟨_, hexec, restartNow_began _⟩
    · rw [h, afterLine_kept] at hexec
      obtain ⟨h1, h2, h3, h4⟩ := muted_waits .duplicate (heard own s)
      exact ⟨_, hexec, h1, h2, h3.trans (heard_join own s), h4.trans (heard_panel own s)⟩

theorem restartGivesUp_iff (s : State) : restartGivesUp s = true ↔
    s.join.membership = .joined ∧ (ownEntry s).isSome = true ∧ s.line.condition = .clear := by
  simp [restartGivesUp, and_assoc]

theorem exec_restart {s : State} (h : portFree s) : exec .restart s = .next (takeRestart (holdRequest 15 [] s)) :=
  exec_request h rfl

theorem takeRestart_now {s : State} (h : restartGivesUp s = false) :
    takeRestart s = done [] { s with panel := { s.panel with restartDue := true } } := if_neg (by simp [h])

/-- A place to give back on a CLEAR line: its GIVE is placed and the wait begins. -/
theorem takeRestart_gives {s : State} {e : Entry} (h : restartGivesUp s = true) (he : ownEntry s = some e)
    (ht : s.out.take = false) (hs : sendingTake s = false) : takeRestart s = done [] { s with
      out := { s.out with give := true }, own := { s.own with leaving := some e.serial }
      panel := { s.panel with restartWait := some (seconds 1) } } := by
  obtain ⟨hj, _, hc⟩ := (restartGivesUp_iff s).mp h
  rw [takeRestart, if_pos h, giveUp_entry ht hs he, requestGive_sendable (by exact hj) (.inl (by exact hc))]
  rfl

/-- The own GIVE that a restart waited for completes (R187). -/
theorem ownGive_restarts {s : State} {f : Sending} {own : Station} {v : Byte} (hp : s.power = .running)
    (hw : s.panel.restartWait.isSome = true) (ho : ownNumber s = some own) (hf : s.line.sending = some f)
    (hc : f.content = .give v) :
    ∃ t, exec .ownFrameComplete s = .next t ∧ t.join.membership = .straps ∧ t.panel.restartWait = none := by
  have hexec : exec .ownFrameComplete s = .next (deliverOwn own f (ownHeard own s)) :=
    (live_running hp _).trans (congrArg _ (completeFrame_own ho hf))
  have hgive : deliverOwn own f (ownHeard own s) = ownGiveSent own v (ownHeard own s) := by rw [deliverOwn, hc]
  rw [hgive, ownGiveSent, if_pos (by show (ownHeard own s).panel.restartWait.isSome = true; rw [ownHeard_panel]; exact hw)] at hexec
  exact ⟨_, hexec, restartNow_began _⟩

theorem stuck_restarts {s : State} (hp : s.power = .running) (hw : s.panel.restartWait.isSome = true)
    (hon : s.line.receiverOn = true) (hg : s.out.give = true) (hc : s.line.condition = .clear ∨ s.line.condition = .doubt) :
    ∃ t, exec .lineStuck s = .next t ∧ t.join.membership = .straps ∧ t.panel.restartWait = none := by
  have hpanel : (enterStuck (receiverLost s)).panel = s.panel := by simp [enterStuck, withdrawAll, setCondition]; rfl
  have hstick : lineSticks s = restartNow (enterStuck (receiverLost s)) := by
    rw [lineSticks, if_pos hon, if_pos (by simpa using hc), hg, afterLine_gone (by rw [hpanel]; exact hw)]
  exact ⟨_, (live_running hp lineSticks).trans (congrArg _ hstick), restartNow_began _⟩

/-- Settles O52. -/
theorem restartRule : Obligations.RestartRule := by
  refine ⟨fun s => ⟨restartGivesUp_iff s, fun h hg => ?_, fun e h hg he ht hs => ?_, fun r hp hr hd => ?_, fun hp hw => ?_,
    fun f own v hp hw ho hf hc => ownGive_restarts hp hw ho hf hc, fun hp hw hon hg hc => stuck_restarts hp hw hon hg hc⟩,
    mutedEndsWait_holds, fun s => ?_⟩
  · rw [exec_restart h, takeRestart_now (by exact hg)]
    rfl
  · rw [exec_restart h, takeRestart_gives (by exact hg) (by exact he) (by exact ht) (by exact hs)]
    rfl
  · show live s endReply = _
    rw [live_running hp, endReply, hr]
    exact congrArg _ (if_pos hd)
  · show live s endPanelWait = _
    rw [live_running hp, endPanelWait, if_pos hw]
  · obtain ⟨h1, h2, h3, h4, h5, h6, h7, h8, h9, h10, h11, h12, h13, h14, h15, h16, h17, h18⟩ := restart_holds s
    obtain ⟨hkeeps, hother, hflag⟩ := restartNow_raised s
    have hfan : ∀ d, fanOf (restartNow s) d = { Fan.start with
        state := if (fanOf s d).state = .failed ∨ ((fanOf s d).state = .stalled ∧ (fanOf s d).attempts = 5) then .failed
          else .stopped
        attempts := (fanOf s d).attempts } := fun d => by rw [restartNow_fan, restarted_eq]
    refine ⟨h1, h2, h3, h4, h5, h6, h7, h8, h9, h10, h11, h12, h13, h14, h15, h16, h17, h18, ?_, hkeeps, hother, fun d => ?_,
      fun d => ?_, fun d h => ?_, fun d h ha => ⟨?_, hflag ?_⟩, fun d h hn => ?_⟩
    · rw [restartNow_parts]
      exact ⟨rfl, rfl⟩
    · rw [hfan]; rfl
    · rw [hfan]; exact ⟨rfl, rfl, rfl⟩
    · rw [hfan]; exact if_pos (.inl h)
    · rw [hfan]; exact if_pos (.inr ⟨h, ha⟩)
    · rw [Bool.or_eq_true]
      cases d
      · exact .inl (newlyFailed_restarted h ha)
      · exact .inr (newlyFailed_restarted h ha)
    · rw [hfan]
      exact if_neg (fun hx => hx.elim h (fun hx => hn.elim (fun hn => hn hx.1) (fun hn => hn hx.2)))

end Sys2Proof.Machine
end

section
/-! SUPPORT. The bytes of the panel's replies: numbers, flags and the snapshot's table: the statement O49. -/

namespace Sys2Proof.Machine

-- One proof after the other, so that the check of the whole text stays within its limit of threads.
set_option Elab.async false

/-! ### Numbers and flags in bytes (R183) -/

theorem byteOf_toNat (n : Nat) : (byteOf n).toNat = n % 256 := BitVec.toNat_ofNat n 8

theorem byteOf_toNat_of_lt {n : Nat} (h : n < 256) : (byteOf n).toNat = n := by rw [byteOf_toNat, Nat.mod_eq_of_lt h]

theorem byteOf_self (b : Byte) : byteOf b.toNat = b := BitVec.eq_of_toNat_eq (byteOf_toNat_of_lt b.isLt)

section
variable {b : List Byte} {i n : Nat}

theorem numberAt_one (h : b.getD i 0 = byteOf n) : numberAt b i 1 = n % 256 := by
  rw [numberAt, numberAt, h, byteOf_toNat, Nat.mul_zero, Nat.add_zero]

theorem numberAt_two (h : b.getD i 0 = byteOf n) (h1 : b.getD (i + 1) 0 = byteOf (n / 256)) : numberAt b i 2 = n % 65536 := by
  rw [numberAt, numberAt_one h1, h, byteOf_toNat]
  omega

theorem numberAt_three (h : b.getD i 0 = byteOf n) (h1 : b.getD (i + 1) 0 = byteOf (n / 256))
    (h2 : b.getD (i + 2) 0 = byteOf (n / 65536)) : numberAt b i 3 = n % 16777216 := by
  rw [numberAt, numberAt_two (n := n / 256) h1 (by rw [Nat.div_div_eq_div_mul]; exact h2), h, byteOf_toNat]
  omega

theorem numberAt_four (h : b.getD i 0 = byteOf n) (h1 : b.getD (i + 1) 0 = byteOf (n / 256))
    (h2 : b.getD (i + 2) 0 = byteOf (n / 65536)) (h3 : b.getD (i + 3) 0 = byteOf (n / 16777216)) :
    numberAt b i 4 = n % 4294967296 := by
  rw [numberAt, numberAt_three (n := n / 256) h1 (by rw [Nat.div_div_eq_div_mul]; exact h2)
    (by rw [Nat.div_div_eq_div_mul]; exact h3), h, byteOf_toNat]
  omega

/-- A number that fits its byte. -/
theorem numberAt_small (hn : n < 256) (h : b.getD i 0 = byteOf n) : numberAt b i 1 = n := by
  rw [numberAt_one h, Nat.mod_eq_of_lt hn]

/-- A signed number in two bytes. -/
theorem numberAt_signed {x : Int} (h : b.getD i 0 = byteOf (BitVec.ofInt 16 x).toNat)
    (h1 : b.getD (i + 1) 0 = byteOf ((BitVec.ofInt 16 x).toNat / 256)) : numberAt b i 2 = (BitVec.ofInt 16 x).toNat := by
  rw [numberAt_two h h1, Nat.mod_eq_of_lt (BitVec.isLt _)]

end

theorem flags_eight (b0 b1 b2 b3 b4 b5 b6 b7 : Bool) :
    let f := byteOf (bit b0 0 + bit b1 1 + bit b2 2 + bit b3 3 + bit b4 4 + bit b5 5 + bit b6 6 + bit b7 7)
    f.getLsbD 0 = b0 ∧ f.getLsbD 1 = b1 ∧ f.getLsbD 2 = b2 ∧ f.getLsbD 3 = b3 ∧ f.getLsbD 4 = b4 ∧ f.getLsbD 5 = b5 ∧
    f.getLsbD 6 = b6 ∧ f.getLsbD 7 = b7 := by
  revert b0 b1 b2 b3 b4 b5 b6 b7
  decide

theorem flags_three (b0 b1 b2 : Bool) :
    let f := byteOf (bit b0 0 + bit b1 1 + bit b2 2)
    f.getLsbD 0 = b0 ∧ f.getLsbD 1 = b1 ∧ f.getLsbD 2 = b2 ∧ f.toNat < 8 := by
  revert b0 b1 b2
  decide

/-- The straps in one byte (R192). -/
theorem straps_byte (number : Fin 16) (pullUp override : Bool) (fanClass : Fin 4) :
    let c := byteOf (number.val + bit pullUp 4 + bit override 5 + 64 * fanClass.val)
    c.toNat % 16 = number.val ∧ c.getLsbD 4 = pullUp ∧ c.getLsbD 5 = override ∧ c.toNat / 64 = fanClass.val := by
  revert number pullUp override fanClass
  decide

/-! ### The snapshot (R192) -/

/-- A byte of a part that stands in a message from place i on. -/
theorem part_getD {b part : List Byte} {i n : Nat} (h : (b.drop i).take n = part) : ∀ k < n, b.getD (i + k) 0 = part.getD k 0 := by
  intro k hk
  rw [← h]
  simp [List.getD_eq_getElem?_getD, hk]

theorem fan_shown {b : List Byte} {i : Nat} {f : Fan} (h : (b.drop i).take 8 = fanBytes f) : fanShown b i f := by
  have hget := part_getD h
  have hstate : fanStateCode f.state < 256 := by cases f.state <;> decide
  exact ⟨numberAt_small hstate (hget 0 (by decide)), numberAt_one (hget 1 (by decide)),
    numberAt_two (hget 2 (by decide)) (hget 3 (by decide)), numberAt_one (hget 4 (by decide)), numberAt_one (hget 5 (by decide)),
    numberAt_two (hget 6 (by decide)) (hget 7 (by decide))⟩

theorem filter_shown {b : List Byte} {i : Nat} {x : Terms} {f : Filter} (h : (b.drop i).take 12 = filterBytes x f) :
    filterShown b i x f := by
  have hget := part_getD h
  have hstate : filterCode f.state < 256 := by cases f.state <;> decide
  obtain ⟨h0, h1, h2, h8⟩ := flags_three f.notice f.reference.isSome f.clog.isSome
  have hflags : b.getD (i + 1) 0 = byteOf (bit f.notice 0 + bit f.reference.isSome 1 + bit f.clog.isSome 2) := hget 1 (by decide)
  have hlife : numberAt b (i + 2) 2 = min 65535 (filterLife x f) := by
    rw [numberAt_two (hget 2 (by decide)) (hget 3 (by decide)), Nat.mod_eq_of_lt (by omega)]
  rw [← hflags] at h0 h1 h2 h8
  exact ⟨numberAt_small hstate (hget 0 (by decide)), h0, h1, h2, h8, hlife,
    numberAt_four (hget 4 (by decide)) (hget 5 (by decide)) (hget 6 (by decide)) (hget 7 (by decide)),
    numberAt_two (hget 8 (by decide)) (hget 9 (by decide)), numberAt_two (hget 10 (by decide)) (hget 11 (by decide))⟩

theorem channel_shown {b : List Byte} {i : Nat} {c : Channel} (h : (b.drop i).take 3 = channelBytes c) : channelShown b i c := by
  have hget := part_getD h
  have hstate : channelCode c.state < 256 := by cases c.state <;> decide
  exact ⟨numberAt_small hstate (hget 0 (by decide)), numberAt_signed (hget 1 (by decide)) (hget 2 (by decide))⟩

theorem presenceCount_lt (s : State) : presenceCount s < 256 := by
  rw [presenceCount_eq_length_filter]
  have h := List.length_filter_le (fun j => decide ((s.peers.records.get j).presence ≠ .absent)) (List.finRange 16)
  rw [List.length_finRange] at h
  omega

theorem modeCode_lt (m : Mode) : modeCode m < 8 := by cases m <;> decide

theorem secondsLeft_eq (t : Timer) : secondsLeft t = secondsShown t := rfl

/-- The parts of the snapshot at their places. -/
theorem snapshot_parts (s : State) : (snapshot s).length = 97 ∧ (snapshot s).take 14 = snapshotStation s ∧
    ((snapshot s).drop 14).take 8 = fanBytes s.supplyFan ∧ ((snapshot s).drop 22).take 8 = fanBytes s.extractFan ∧
    ((snapshot s).drop 30).take 16 = snapshotBlocks s ∧
    ((snapshot s).drop 46).take 12 = filterBytes s.join.terms s.filters.supply ∧
    ((snapshot s).drop 58).take 12 = filterBytes s.join.terms s.filters.extract ∧ ((snapshot s).drop 70).take 9 = [signedByte s.filters.trim, byteOf (saveCode s.filters.save)] ++ le24 s.clock.time
      ++ [byteOf s.clock.sub] ++ signed16 s.clock.slew ++ [byteOf (match s.clock.source with
        | none => 255
        | some j => j.val)] :=
  ⟨rfl, rfl, rfl, rfl, rfl, rfl, rfl, rfl⟩

theorem newestAverage_eq (h : Humid) : newestAverage h = h.ring.headD 255 := by
  unfold newestAverage
  cases h.ring <;> rfl

theorem humidMinutes_mod (h : Humid) : humidMinutes h % 256 = match h.state with
    | .idle => 0
    | .boost => h.boostMinutes % 256
    | .rest => h.restMinutes % 256 := by
  unfold humidMinutes
  cases h.state <;> rfl

theorem sourceCode_lt (x : TermsSource) : sourceCode x < 256 := by
  cases x with
  | defaults => decide
  | panel => decide
  | heard j => simp only [sourceCode]; omega

theorem sourceCode_eq (x : TermsSource) : sourceCode x = match x with
    | .defaults => 0
    | .panel => 1
    | .heard j => 2 + 16 * j.val := by cases x <;> rfl

theorem heldScheduled_lt (held : Option BaseMode) (scheduled : Option SchedMode) :
    heldCode held + 16 * scheduledCode scheduled < 256 := by
  have hheld : heldCode held ≤ 4 := by rcases held with _ | m; exacts [by decide, by cases m <;> decide]
  have hscheduled : scheduledCode scheduled ≤ 3 := by rcases scheduled with _ | m; exacts [by decide, by cases m <;> decide]
  omega

theorem saveCode_lt (x : SaveState) : saveCode x < 256 := by cases x <;> simp [saveCode]

theorem saveCode_eq (x : SaveState) : saveCode x = match x with
    | .idle => 0
    | .writing _ => 1
    | .queued _ => 2 := by cases x <;> rfl

theorem events_lt (s : State) : s.events.toNat < 65536 := by
  have := s.events.isLt
  omega

theorem sourceByte_lt (x : Option Station) : (match x with
    | none => 255
    | some j => j.val) < 256 := by
  rcases x with _ | j
  · decide
  · exact j.isLt.trans (by decide)

/-- The channels and what follows the clock in the snapshot. -/
theorem clock_parts (s : State) : ((snapshot s).drop 79).take 3 = channelBytes s.sensors.tO ∧
    ((snapshot s).drop 82).take 3 = channelBytes s.sensors.tS ∧ ((snapshot s).drop 85).take 3 = channelBytes s.sensors.tE ∧
    ((snapshot s).drop 88).take 3 = channelBytes s.sensors.tX ∧ ((snapshot s).drop 91).take 3 = channelBytes s.sensors.hE ∧
    ((snapshot s).drop 94).take 3 = byteOf (lampCode s.lamp.level) :: le16 s.events.toNat :=
  ⟨rfl, rfl, rfl, rfl, rfl, rfl⟩

theorem snapshot_laid (s : State) : snapshotLaidOut s := by
  unfold snapshotLaidOut
  have hparts := snapshot_parts s
  have hchannels := clock_parts s
  generalize snapshot s = b at hparts hchannels ⊢
  intro b' flags
  obtain ⟨hlength, hstation, hsupply, hextract, hblocks, hfirst, hsecond, hclock⟩ := hparts
  obtain ⟨hO, hS, hE, hX, hH, hlast⟩ := hchannels
  have station := part_getD (i := 0) (b := b) hstation
  have blocks := part_getD hblocks
  have clock := part_getD hclock
  have last := part_getD hlast
  obtain ⟨f0, f1, f2, f3, f4, f5, f6, f7⟩ := flags_eight s.join.straps.isSome s.join.querySent s.join.skew s.plan.curbed
    s.frost.preheater s.own.eligible s.frost.blind (humidActive s)
  have hflags : b.getD 1 0 = _ := station 1 (by decide)
  have hstraps : b.getD 2 0 = byteOf (strapsCode s.join.straps) := station 2 (by decide)
  refine ⟨hlength, numberAt_small (by cases s.join.membership <;> decide) (station 0 (by decide)), ?_, fun h => ?_, fun x h => ?_,
    ?_⟩
  · rw [show flags = _ from hflags]
    exact ⟨f0, f1, f2, f3, f4, f5, f6, f7⟩
  · rw [show b'.getD 2 0 = _ from hstraps, h]
    rfl
  · obtain ⟨h1, h2, h3, h4⟩ := straps_byte x.number x.pullUp x.override x.fanClass
    have hnumber : numberAt b 2 1 = (byteOf (x.number.val + bit x.pullUp 4 + bit x.override 5 + 64 * x.fanClass.val)).toNat := by
      rw [numberAt, numberAt, hstraps, h]
      rfl
    rw [show numberAt b' 2 1 = _ from hnumber, show b'.getD 2 0 = _ from hstraps, h]
    exact ⟨h1, h2, h3, h4⟩
  refine ⟨numberAt_small (by cases s.line.condition <;> cases s.line.cause <;> decide) (station 3 (by decide)),
    numberAt_one (station 4 (by decide)), numberAt_one (station 5 (by decide)), station 6 (by decide), ?_,
    numberAt_small (presenceCount_lt s) (station 8 (by decide)), ?_, ?_, ?_, numberAt_two (station 12 (by decide)) (station 13 (by decide)),
    fan_shown hsupply, fan_shown hextract, ?_⟩
  · rw [numberAt_small (sourceCode_lt _) (station 7 (by decide))]
    exact sourceCode_eq _
  · exact numberAt_small (heldScheduled_lt _ _) (station 9 (by decide))
  · exact numberAt_small ((modeCode_lt _).trans (by omega)) (station 10 (by decide))
  · exact numberAt_small ((modeCode_lt _).trans (by omega)) (station 11 (by decide))
  refine ⟨numberAt_one (blocks 0 (by decide)), numberAt_one (blocks 1 (by decide)), numberAt_one (blocks 2 (by decide)),
    numberAt_two (blocks 3 (by decide)) (blocks 4 (by decide)), numberAt_signed (blocks 5 (by decide)) (blocks 6 (by decide)),
    numberAt_one (blocks 7 (by decide)), numberAt_small (by cases s.frost.stage <;> decide) (blocks 8 (by decide)),
    numberAt_one (blocks 9 (by decide)), blocks 10 (by decide), numberAt_one (blocks 11 (by decide)),
    numberAt_small (by cases s.humid.state <;> decide) (blocks 12 (by decide)),
    (numberAt_one (blocks 13 (by decide))).trans (humidMinutes_mod _), numberAt_one (blocks 14 (by decide)), ?_,
    filter_shown hfirst, filter_shown hsecond, ?_⟩
  · rw [← newestAverage_eq]
    exact numberAt_one (blocks 15 (by decide))
  refine ⟨clock 0 (by decide), ?_, numberAt_three (clock 2 (by decide)) (clock 3 (by decide)) (clock 4 (by decide)),
    numberAt_one (clock 5 (by decide)), numberAt_signed (clock 6 (by decide)) (clock 7 (by decide)), ?_, channel_shown hO,
    channel_shown hS, channel_shown hE, channel_shown hX, channel_shown hH,
    numberAt_small (by cases s.lamp.level <;> decide) (last 0 (by decide)), ?_⟩
  · rw [numberAt_small (saveCode_lt _) (clock 1 (by decide))]
    exact saveCode_eq _
  · exact numberAt_small (sourceByte_lt s.clock.source) (clock 8 (by decide))
  · exact (numberAt_two (last 1 (by decide)) (last 2 (by decide))).trans (Nat.mod_eq_of_lt (events_lt s))

theorem queueData_length (s : State) : (queueData s).length = 9 + 4 * s.queue.entries.length := by
  have hfour : ∀ l : List Entry, ((l.map (entryData s)).flatten).length = 4 * l.length := fun l => by
    induction l with
    | nil => rfl
    | cons e l ih =>
      rw [List.map_cons, List.flatten_cons, List.length_append, ih, List.length_cons]
      show 4 + _ = _
      omega
  rw [queueData, List.length_append, hfour]
  rfl

theorem exec_peerRead {s : State} {b : Byte} (h : portFree s) : exec (.peerRead b) s = .next (takePeerRead b (holdRequest 9 [b] s)) :=
  exec_request h rfl

theorem peerData_own {s : State} {j : Station} (h : ownNumber s = some j) :
    peerData s j = [byteOf j.val, 3, 0, byteOf s.peers.unusable] ++ reportBytes s.peers.ownReport :=
  if_pos (by simpa [isOwn] using h)

theorem peerData_other {s : State} {j : Station} (h : ownNumber s ≠ some j) :
    peerData s j = [byteOf j.val, byteOf (presenceCode (s.peers.records.get j).presence), byteOf (s.peers.records.get j).age,
      byteOf s.peers.unusable] ++ reportBytes (s.peers.records.get j).fields :=
  if_neg (by simpa [isOwn] using h)

/-- Settles O49. -/
theorem readsChangeOnlyTheReply : Obligations.ReadsChangeOnlyTheReply := by
  intro s b h
  refine ⟨exec_request h (owner := fun s => done (snapshot s) s) rfl, snapshot_laid s, by unfold snapshotCodes; decide,
    exec_request h (owner := fun s => done (queueData s) s) rfl, queueData_length s,
    exec_request h (owner := fun s => done (tallyData s) s) rfl, rfl, fun hb ho => ?_, fun hb ho => ?_, fun hb => ?_⟩
  · rw [exec_peerRead h, takePeerRead, dif_pos hb, peerData_other (by exact ho), byteOf_self]
    rfl
  · rw [exec_peerRead h, takePeerRead, dif_pos hb, peerData_own (by exact ho), byteOf_self]
    rfl
  · rw [exec_peerRead h, takePeerRead, dif_neg (not_lt.mpr hb)]
    rfl

end Sys2Proof.Machine
end

section
/-! SUPPORT. The layouts of the frames, the replies and the characters, and what the decoders refuse: the statement O54. -/

namespace Sys2Proof.Machine

-- One proof after the other, so that the check of the whole text stays within its limit of threads.
set_option Elab.async false

/-! ### Codes (R190) -/

theorem modeOfCode_modeCode (m : Mode) : modeOfCode (modeCode m) = some m := by cases m <;> rfl

theorem stageOfCode_stageCode (x : FrostStage) : stageOfCode (stageCode x) = some x := by cases x <;> rfl

theorem copyOfCode_copyCode (x : CopyState) : copyOfCode (copyCode x) = some x := by cases x <;> rfl

theorem modeOfCode_none (n : Nat) : modeOfCode n = none ↔ 7 < n := by
  refine ⟨fun h => ?_, fun h => ?_⟩
  · by_contra hn
    have : n ≤ 7 := by omega
    interval_cases n <;> cases h
  · unfold modeOfCode
    split <;> first | omega | rfl

theorem stageOfCode_none (n : Nat) : stageOfCode n = none ↔ 4 < n := by
  refine ⟨fun h => ?_, fun h => ?_⟩
  · by_contra hn
    have : n ≤ 4 := by omega
    interval_cases n <;> cases h
  · unfold stageOfCode
    split <;> first | omega | rfl

theorem copyOfCode_none (n : Nat) : copyOfCode n = none ↔ 2 < n := by
  refine ⟨fun h => ?_, fun h => ?_⟩
  · by_contra hn
    have : n ≤ 2 := by omega
    interval_cases n <;> cases h
  · unfold copyOfCode
    split <;> first | omega | rfl

theorem stageCode_le (x : FrostStage) : stageCode x ≤ 4 := by cases x <;> decide

theorem copyCode_le (x : CopyState) : copyCode x ≤ 2 := by cases x <;> decide

/-! ### STATUS (R36, R190) -/

/-- The report of the given codes that a payload carries, usable or not. -/
def reportOf (p : StatusBytes) (mode : Mode) (stage : FrostStage) (copyState : CopyState) : Report :=
  { mode := mode, stage := stage, reduction10 := p.b1.toNat % 16, claim := p.b2.toNat,
    lineNotClear := p.b3.getLsbD 0, backoff := p.b3.getLsbD 1, curbed := p.b3.getLsbD 2,
    filterDue := p.b3.getLsbD 3, skew := p.b3.getLsbD 4, entryPresent := p.b3.getLsbD 5,
    entryGranted := p.b3.getLsbD 6, copyState := copyState, entrySerial := p.b5, n := p.b6,
    filterLife := p.b7.toNat, termsVersion := p.b8,
    time := p.b9.toNat + 256 * p.b10.toNat + 65536 * p.b11.toNat }

theorem decodeStatus_codes {p : StatusBytes} {mode : Mode} {stage : FrostStage} {copyState : CopyState}
    (h0 : modeOfCode p.b0.toNat = some mode) (h1 : stageOfCode (p.b1.toNat / 16) = some stage)
    (h4 : copyOfCode p.b4.toNat = some copyState) : decodeStatus p =
      if (reportOf p mode stage copyState).usable then some (reportOf p mode stage copyState) else none := by
  rw [decodeStatus, h0, h1, h4]
  rfl

theorem decodeStatus_uncoded {p : StatusBytes} (h : modeOfCode p.b0.toNat = none ∨ stageOfCode (p.b1.toNat / 16) = none ∨
    copyOfCode p.b4.toNat = none) : decodeStatus p = none := by
  unfold decodeStatus
  split
  next h0 h1 h4 => rw [h0, h1, h4] at h; simp at h
  next => rfl

theorem usable_report_iff (r : Report) : r.usable = true ↔
    r.reduction10 ≤ 6 ∧ (r.entryGranted = true → r.entryPresent = true) ∧ r.time ≤ 604799 := by
  unfold Report.usable
  cases r.entryGranted <;> cases r.entryPresent <;> simp

/-- Each field of a report at its place in the payload. -/
theorem status_fields {r : Report} (h1 : r.reduction10 ≤ 6) (h2 : r.claim ≤ 255) (h3 : r.filterLife ≤ 255)
    (h4 : r.time ≤ 604799) :
    let p := encodeStatus r
    p.b0.toNat = modeCode r.mode ∧ p.b1.toNat / 16 = stageCode r.stage ∧ p.b1.toNat % 16 = r.reduction10 ∧
    p.b2.toNat = r.claim ∧ p.b3.getLsbD 0 = r.lineNotClear ∧ p.b3.getLsbD 1 = r.backoff ∧ p.b3.getLsbD 2 = r.curbed ∧
    p.b3.getLsbD 3 = r.filterDue ∧ p.b3.getLsbD 4 = r.skew ∧ p.b3.getLsbD 5 = r.entryPresent ∧
    p.b3.getLsbD 6 = r.entryGranted ∧ p.b3.getLsbD 7 = false ∧ p.b4.toNat = copyCode r.copyState ∧
    p.b5 = r.entrySerial ∧ p.b6 = r.n ∧ p.b7.toNat = r.filterLife ∧ p.b8 = r.termsVersion ∧
    p.b9.toNat + 256 * p.b10.toNat + 65536 * p.b11.toNat = r.time := by
  intro p
  obtain ⟨f0, f1, f2, f3, f4, f5, f6, f7⟩ := flags_eight r.lineNotClear r.backoff r.curbed r.filterDue r.skew r.entryPresent
    r.entryGranted false
  have hmode := modeCode_lt r.mode
  have hstage := stageCode_le r.stage
  have hcopy := copyCode_le r.copyState
  have hb1 : p.b1.toNat = stageCode r.stage * 16 + r.reduction10 := byteOf_toNat_of_lt (by omega)
  have h9 : p.b9.toNat = r.time % 256 := byteOf_toNat _
  have h10 : p.b10.toNat = r.time / 256 % 256 := byteOf_toNat _
  have h11 : p.b11.toNat = r.time / 65536 % 256 := byteOf_toNat _
  refine ⟨byteOf_toNat_of_lt (by omega), by omega, by omega, byteOf_toNat_of_lt (by omega), f0, f1, f2, f3, f4, f5, f6, f7,
    byteOf_toNat_of_lt (by omega), rfl, rfl, byteOf_toNat_of_lt (by omega), rfl, by omega⟩

theorem reportOf_encodeStatus {r : Report} (h1 : r.reduction10 ≤ 6) (h2 : r.claim ≤ 255) (h3 : r.filterLife ≤ 255)
    (h4 : r.time ≤ 604799) : reportOf (encodeStatus r) r.mode r.stage r.copyState = r := by
  obtain ⟨_, _, hred, hclaim, f0, f1, f2, f3, f4, f5, f6, _, _, h5, h6, h7, h8, htime⟩ := status_fields h1 h2 h3 h4
  unfold reportOf
  rw [hred, hclaim, f0, f1, f2, f3, f4, f5, f6, h5, h6, h7, h8, htime]

theorem decodeStatus_encodeStatus {r : Report} (h1 : r.reduction10 ≤ 6) (h2 : r.claim ≤ 255) (h3 : r.filterLife ≤ 255)
    (h4 : r.time ≤ 604799) (h5 : r.entryGranted = true → r.entryPresent = true) :
    decodeStatus (encodeStatus r) = some r := by
  obtain ⟨hmode, hstage, _, _, _, _, _, _, _, _, _, _, hcopy, _⟩ := status_fields h1 h2 h3 h4
  rw [decodeStatus_codes (by rw [hmode, modeOfCode_modeCode]) (by rw [hstage, stageOfCode_stageCode])
    (by rw [hcopy, copyOfCode_copyCode]), reportOf_encodeStatus h1 h2 h3 h4, if_pos ((usable_report_iff r).mpr ⟨h1, h5, h4⟩)]

theorem decodeStatus_none (p : StatusBytes) : decodeStatus p = none ↔
    7 < p.b0.toNat ∨ 4 < p.b1.toNat / 16 ∨ 6 < p.b1.toNat % 16 ∨ 2 < p.b4.toNat ∨
    (p.b3.getLsbD 6 = true ∧ p.b3.getLsbD 5 = false) ∨
    604799 < p.b9.toNat + 256 * p.b10.toNat + 65536 * p.b11.toNat := by
  rcases h0 : modeOfCode p.b0.toNat with _ | mode
  · exact iff_of_true (decodeStatus_uncoded (.inl h0)) (.inl ((modeOfCode_none _).mp h0))
  rcases h1 : stageOfCode (p.b1.toNat / 16) with _ | stage
  · exact iff_of_true (decodeStatus_uncoded (.inr (.inl h1))) (.inr (.inl ((stageOfCode_none _).mp h1)))
  rcases h4 : copyOfCode p.b4.toNat with _ | copyState
  · exact iff_of_true (decodeStatus_uncoded (.inr (.inr h4))) (.inr (.inr (.inr (.inl ((copyOfCode_none _).mp h4)))))
  have hn0 : ¬ 7 < p.b0.toNat := by rw [← modeOfCode_none, h0]; simp
  have hn1 : ¬ 4 < p.b1.toNat / 16 := by rw [← stageOfCode_none, h1]; simp
  have hn4 : ¬ 2 < p.b4.toNat := by rw [← copyOfCode_none, h4]; simp
  rw [decodeStatus_codes h0 h1 h4]
  have hnone : (if (reportOf p mode stage copyState).usable then some (reportOf p mode stage copyState) else none) = none ↔
      ¬ (reportOf p mode stage copyState).usable = true := by
    split <;> simp [*]
  rw [hnone, usable_report_iff]
  show ¬ (p.b1.toNat % 16 ≤ 6 ∧ (p.b3.getLsbD 6 = true → p.b3.getLsbD 5 = true) ∧
    p.b9.toNat + 256 * p.b10.toNat + 65536 * p.b11.toNat ≤ 604799) ↔ _
  simp only [hn0, hn1, hn4, false_or, not_and_or, not_le, Classical.not_imp, Bool.not_eq_true]

end Sys2Proof.Machine
end

section
/-! SUPPORT. Terms sets, schedule entries, the smaller replies and the characters: the statement O54. -/

namespace Sys2Proof.Machine

-- One proof after the other, so that the check of the whole text stays within its limit of threads.
set_option Elab.async false

/-! ### TERMS (R48, R189) -/

theorem signedByte_toInt {i : Int} (h1 : -128 ≤ i) (h2 : i ≤ 127) : (signedByte i).toInt = i := by
  rw [signedByte, BitVec.toInt_ofInt, Int.bmod_eq_of_le] <;> omega

theorem signedByte_self (b : Byte) : signedByte b.toInt = b := BitVec.ofInt_toInt

theorem usable_terms_iff (x : Terms) : x.usable = true ↔
    x.stackLimit ≤ 4095 ∧ 1 ≤ x.concurrency ∧ x.concurrency ≤ 4 ∧
    60 ≤ x.holdLimit ∧ x.holdLimit ≤ 1800 ∧ x.holdLimit % 10 = 0 ∧ -50 ≤ x.frostBase ∧ x.frostBase ≤ 50 ∧
    x.imbalance ≤ 20 ∧ 40 ≤ x.humidUpper ∧ x.humidUpper ≤ 90 ∧
    30 ≤ x.humidLower ∧ x.humidLower ≤ 85 ∧ x.humidLower + 5 ≤ x.humidUpper ∧
    100 ≤ x.filterLife ∧ x.filterLife ≤ 2000 ∧ 1 ≤ x.ahead ∧ x.ahead ≤ 32 ∧ 1 ≤ x.behind ∧ x.behind ≤ 32 ∧
    1 ≤ x.errorThreshold ∧ x.errorThreshold ≤ 15 ∧ -16 ≤ x.trimFloor ∧ x.trimFloor ≤ 15 ∧
    (x.version = 0 → x = Terms.defaults) := by
  have hversion : (decide (x.version ≠ 0) || decide (x = Terms.defaults)) = true ↔ (x.version = 0 → x = Terms.defaults) := by
    rw [Bool.or_eq_true, decide_eq_true_eq, decide_eq_true_eq, ← imp_iff_not_or]
  simp only [Terms.usable, Bool.and_eq_true, hversion, decide_eq_true_eq, and_assoc]

/-- Each field of a usable terms set at its place in the payload. -/
theorem terms_fields {x : Terms} (h : x.usable = true) :
    let p := encodeTerms x
    p.b0 = x.version ∧ p.b1.toNat + 256 * p.b2.toNat = x.stackLimit ∧ p.b3.toNat = x.concurrency ∧
    10 * p.b4.toNat = x.holdLimit ∧ p.b5.toInt = x.frostBase ∧ p.b6.toNat = x.imbalance ∧ p.b7.toNat = x.humidUpper ∧
    p.b8.toNat = x.humidLower ∧ p.b9.toNat + 256 * p.b10.toNat = x.filterLife ∧ p.b11.toNat = x.ahead ∧
    p.b12.toNat = x.behind ∧ p.b13.toNat = x.errorThreshold ∧ p.b14.toInt = x.trimFloor := by
  intro p
  obtain ⟨hlimit, -, hconc, -, hhold, hten, hf1, hf2, himb, -, hup, -, hlow, -, -, hlife, -, hahead, -, hbehind, -, herr, ht1, ht2, -⟩ :=
    (usable_terms_iff x).mp h
  have h1 : p.b1.toNat = x.stackLimit % 256 := byteOf_toNat _
  have h2 : p.b2.toNat = x.stackLimit / 256 % 256 := byteOf_toNat _
  have h4 : p.b4.toNat = x.holdLimit / 10 := byteOf_toNat_of_lt (by omega)
  have h9 : p.b9.toNat = x.filterLife % 256 := byteOf_toNat _
  have h10 : p.b10.toNat = x.filterLife / 256 % 256 := byteOf_toNat _
  exact ⟨rfl, by omega, byteOf_toNat_of_lt (by omega), by omega, signedByte_toInt (by omega) (by omega),
    byteOf_toNat_of_lt (by omega), byteOf_toNat_of_lt (by omega), byteOf_toNat_of_lt (by omega), by omega,
    byteOf_toNat_of_lt (by omega), byteOf_toNat_of_lt (by omega), byteOf_toNat_of_lt (by omega),
    signedByte_toInt (by omega) (by omega)⟩

theorem termsFields_encodeTerms {x : Terms} (h : x.usable = true) : termsFields (encodeTerms x) = x := by
  obtain ⟨h0, h1, h3, h4, h5, h6, h7, h8, h9, h11, h12, h13, h14⟩ := terms_fields h
  unfold termsFields
  rw [h0, h1, h3, h4, h5, h6, h7, h8, h9, h11, h12, h13, h14]

/-- A payload is what its own fields are sent as. -/
theorem encodeTerms_termsFields (p : TermsBytes) : encodeTerms (termsFields p) = p := by
  have hlow : ∀ a b : Byte, byteOf (a.toNat + 256 * b.toNat) = a := fun a b => by
    refine BitVec.eq_of_toNat_eq ?_
    rw [byteOf_toNat]
    have := a.isLt
    omega
  have hhigh : ∀ a b : Byte, byteOf ((a.toNat + 256 * b.toNat) / 256) = b := fun a b => by
    rw [show (a.toNat + 256 * b.toNat) / 256 = b.toNat by have := a.isLt; omega, byteOf_self]
  unfold encodeTerms termsFields
  simp only [hlow, hhigh, byteOf_self, signedByte_self, Nat.mul_div_cancel_left _ (show 0 < 10 by decide)]

theorem decodeTerms_encodeTerms {x : Terms} (h : x.usable = true) : decodeTerms (encodeTerms x) = some x := by
  rw [decodeTerms, termsFields_encodeTerms h, if_pos h]

theorem encodeTerms_decoded {p : TermsBytes} {x : Terms} (h : decodeTerms p = some x) : encodeTerms x = p := by
  unfold decodeTerms at h
  split at h
  · cases h
    exact encodeTerms_termsFields p
  · cases h

/-- The payload of the defaults is the only one with their fields. -/
theorem termsFields_defaults (p : TermsBytes) : termsFields p = Terms.defaults ↔ p = encodeTerms Terms.defaults := by
  refine ⟨fun h => ?_, fun h => ?_⟩
  · rw [← h, encodeTerms_termsFields]
  · rw [h, termsFields_encodeTerms (by decide)]

theorem decodeTerms_none (p : TermsBytes) : decodeTerms p = none ↔ ¬ (
     p.b1.toNat + 256 * p.b2.toNat ≤ 4095 ∧ 1 ≤ p.b3.toNat ∧ p.b3.toNat ≤ 4 ∧ 6 ≤ p.b4.toNat ∧ p.b4.toNat ≤ 180 ∧
     -50 ≤ p.b5.toInt ∧ p.b5.toInt ≤ 50 ∧ p.b6.toNat ≤ 20 ∧ 40 ≤ p.b7.toNat ∧ p.b7.toNat ≤ 90 ∧
     30 ≤ p.b8.toNat ∧ p.b8.toNat ≤ 85 ∧ p.b8.toNat + 5 ≤ p.b7.toNat ∧
     100 ≤ p.b9.toNat + 256 * p.b10.toNat ∧ p.b9.toNat + 256 * p.b10.toNat ≤ 2000 ∧
     1 ≤ p.b11.toNat ∧ p.b11.toNat ≤ 32 ∧ 1 ≤ p.b12.toNat ∧ p.b12.toNat ≤ 32 ∧ 1 ≤ p.b13.toNat ∧ p.b13.toNat ≤ 15 ∧
     -16 ≤ p.b14.toInt ∧ p.b14.toInt ≤ 15 ∧
     (p.b0 = 0 → p = { b0 := 0, b1 := 0xB0, b2 := 4, b3 := 2, b4 := 60, b5 := 10, b6 := 10, b7 := 70, b8 := 60, b9 := 0x58,
                       b10 := 2, b11 := 8, b12 := 8, b13 := 8, b14 := 0 })) := by
  have hnone : decodeTerms p = none ↔ ¬ (termsFields p).usable = true := by
    unfold decodeTerms
    split <;> simp [*]
  have hhold : (60 ≤ 10 * p.b4.toNat ∧ 10 * p.b4.toNat ≤ 1800 ∧ 10 * p.b4.toNat % 10 = 0) ↔ 6 ≤ p.b4.toNat ∧ p.b4.toNat ≤ 180 := by
    omega
  rw [hnone, usable_terms_iff, termsFields_defaults]
  refine not_congr ?_
  show (p.b1.toNat + 256 * p.b2.toNat ≤ 4095 ∧ 1 ≤ p.b3.toNat ∧ p.b3.toNat ≤ 4 ∧ 60 ≤ 10 * p.b4.toNat ∧
    10 * p.b4.toNat ≤ 1800 ∧ 10 * p.b4.toNat % 10 = 0 ∧ _) ↔ _
  rw [← and_assoc (a := 10 * p.b4.toNat ≤ 1800), ← and_assoc (a := 60 ≤ 10 * p.b4.toNat), hhold, and_assoc]
  exact Iff.rfl

theorem newerVersion_iff (a b : Byte) : newerVersion a b = true ↔ (b = 0 ∧ a ≠ 0) ∨
    (a ≠ 0 ∧ b ≠ 0 ∧ 1 ≤ (a.toNat + 256 - b.toNat) % 256 ∧ (a.toNat + 256 - b.toNat) % 256 ≤ 127) := by
  have hdistance : serialDistance a b = (a.toNat + 256 - b.toNat) % 256 := by
    rw [serialDistance, BitVec.toNat_sub]
    have := b.isLt
    omega
  by_cases hb : b = 0
  · simp [newerVersion, hb]
  · rw [newerVersion, if_neg hb, hdistance]
    simp only [Bool.and_eq_true, decide_eq_true_eq, hb, false_and, false_or, ne_eq, not_false_eq_true, true_and, and_assoc]

theorem agrees_iff (a b : Terms) : a.agrees b = true ↔ { a with version := b.version } = b := by
  rw [Terms.agrees, decide_eq_true_eq]
  refine ⟨fun h => ?_, fun h => ?_⟩
  · exact congrArg (fun t : Terms => { t with version := b.version }) h
  · exact congrArg (fun t : Terms => { t with version := 0 }) h

/-! ### Schedule entries (R171, R191) -/

theorem schedModeOfCode_none (n : Nat) : schedModeOfCode n = none ↔ n = 0 ∨ 3 < n := by
  refine ⟨fun h => ?_, fun h => ?_⟩
  · by_contra hn
    have h1 : 1 ≤ n := by omega
    have h3 : n ≤ 3 := by omega
    interval_cases n <;> cases h
  · unfold schedModeOfCode
    split <;> first | omega | rfl

theorem schedModeOfCode_some {n : Nat} {m : SchedMode} (h : schedModeOfCode n = some m) : n = schedModeCode m := by
  unfold schedModeOfCode at h
  split at h <;> cases h <;> rfl

/-- The entry that four bytes with bit 7 set give, in a mode. -/
def entryOfBytes (e : EntryBytes) (mode : SchedMode) : SchedEntry :=
  { days := e.b0.extractLsb' 0 7, hourOn := e.b1.getLsbD 7, hour := if e.b1.getLsbD 7 then e.b1.toNat % 32 else 0,
    minuteOn := e.b2.getLsbD 7, minute := if e.b2.getLsbD 7 then e.b2.toNat % 64 else 0, mode := mode }

/-- An enabled hour or minute out of its range. -/
def outOfRange (e : EntryBytes) : Prop :=
  (e.b1.getLsbD 7 = true ∧ 24 ≤ e.b1.toNat % 32) ∨ (e.b2.getLsbD 7 = true ∧ 60 ≤ e.b2.toNat % 64)

theorem decodeEntry_empty {e : EntryBytes} (h : e.b0.getLsbD 7 = false) : decodeEntry e = some none :=
  if_pos (by rw [h]; rfl)

theorem decodeEntry_unknown {e : EntryBytes} (h : e.b0.getLsbD 7 = true) (hm : schedModeOfCode e.b3.toNat = none) :
    decodeEntry e = none := by
  rw [decodeEntry, if_neg (by simp [h]), hm]

theorem decodeEntry_known {e : EntryBytes} {m : SchedMode} (h : e.b0.getLsbD 7 = true) (hm : schedModeOfCode e.b3.toNat = some m) :
    (outOfRange e → decodeEntry e = none) ∧ (¬ outOfRange e → decodeEntry e = some (some (entryOfBytes e m))) := by
  have hshape : decodeEntry e = if (e.b1.getLsbD 7 && decide (24 ≤ e.b1.toNat % 32) ||
      e.b2.getLsbD 7 && decide (60 ≤ e.b2.toNat % 64)) = true then none else some (some (entryOfBytes e m)) := by
    rw [decodeEntry, if_neg (by simp [h]), hm]
    rfl
  have hrange : (e.b1.getLsbD 7 && decide (24 ≤ e.b1.toNat % 32) || e.b2.getLsbD 7 && decide (60 ≤ e.b2.toNat % 64)) = true ↔
      outOfRange e := by simp [outOfRange]
  rw [hshape]
  exact ⟨fun ho => if_pos (hrange.mpr ho), fun ho => if_neg (mt hrange.mp ho)⟩

theorem decodeEntry_none (e : EntryBytes) : decodeEntry e = none ↔ e.b0.getLsbD 7 = true ∧
    (e.b3 = 0 ∨ 3 < e.b3.toNat ∨ (e.b1.getLsbD 7 = true ∧ 24 ≤ e.b1.toNat % 32) ∨
      (e.b2.getLsbD 7 = true ∧ 60 ≤ e.b2.toNat % 64)) := by
  have hzero : e.b3.toNat = 0 ↔ e.b3 = 0 := ⟨fun h => BitVec.eq_of_toNat_eq h, fun h => by rw [h]; rfl⟩
  cases h : e.b0.getLsbD 7
  · rw [decodeEntry_empty h]
    simp
  rcases hm : schedModeOfCode e.b3.toNat with _ | m
  · have hbad := (schedModeOfCode_none _).mp hm
    rw [hzero] at hbad
    exact iff_of_true (decodeEntry_unknown h hm) ⟨rfl, hbad.imp_right .inl⟩
  · have hgood : ¬ (e.b3 = 0 ∨ 3 < e.b3.toNat) := by rw [← hzero, ← schedModeOfCode_none, hm]; simp
    have hcases : (e.b3 = 0 ∨ 3 < e.b3.toNat ∨ outOfRange e) ↔ outOfRange e := by
      rw [← or_assoc]
      exact or_iff_right hgood
    obtain ⟨hout, hin⟩ := decodeEntry_known h hm
    refine Iff.trans ?_ (and_congr_right fun _ => hcases).symm
    by_cases ho : outOfRange e
    · exact iff_of_true (hout ho) ⟨rfl, ho⟩
    · rw [hin ho]
      exact iff_of_false (by simp) (fun h => ho h.2)

theorem decodeEntry_someNone (e : EntryBytes) : decodeEntry e = some none ↔ e.b0.getLsbD 7 = false := by
  refine ⟨fun hd => ?_, decodeEntry_empty⟩
  cases h : e.b0.getLsbD 7
  · rfl
  rcases hm : schedModeOfCode e.b3.toNat with _ | m
  · rw [decodeEntry_unknown h hm] at hd
    cases hd
  obtain ⟨hout, hin⟩ := decodeEntry_known h hm
  by_cases ho : outOfRange e
  · rw [hout ho] at hd
    cases hd
  · rw [hin ho] at hd
    cases hd

theorem decodeEntry_some {e : EntryBytes} {x : SchedEntry} (hd : decodeEntry e = some (some x)) :
    schedModeOfCode e.b3.toNat = some x.mode ∧ x = entryOfBytes e x.mode := by
  cases h : e.b0.getLsbD 7
  · rw [decodeEntry_empty h] at hd
    cases hd
  rcases hm : schedModeOfCode e.b3.toNat with _ | m
  · rw [decodeEntry_unknown h hm] at hd
    cases hd
  obtain ⟨hout, hin⟩ := decodeEntry_known h hm
  by_cases ho : outOfRange e
  · rw [hout ho] at hd
    cases hd
  · rw [hin ho] at hd
    cases hd
    exact ⟨rfl, rfl⟩

/-- The three bytes of an entry's days, hour and minute. -/
theorem days_byte (days : BitVec 7) : (byteOf (128 + days.toNat)).getLsbD 7 = true ∧
    (byteOf (128 + days.toNat)).extractLsb' 0 7 = days := by
  revert days
  decide +kernel

theorem hour_byte (on : Bool) {hour : Nat} (h : hour ≤ 23) :
    (byteOf (bit on 7 + hour)).getLsbD 7 = on ∧ (byteOf (bit on 7 + hour)).toNat % 32 = hour := by
  have hall : ∀ (on : Bool) (n : Fin 24), (byteOf (bit on 7 + n.val)).getLsbD 7 = on ∧
      (byteOf (bit on 7 + n.val)).toNat % 32 = n.val := by decide
  exact hall on ⟨hour, by omega⟩

theorem minute_byte (on : Bool) {minute : Nat} (h : minute ≤ 59) :
    (byteOf (bit on 7 + minute)).getLsbD 7 = on ∧ (byteOf (bit on 7 + minute)).toNat % 64 = minute := by
  have hall : ∀ (on : Bool) (n : Fin 60), (byteOf (bit on 7 + n.val)).getLsbD 7 = on ∧
      (byteOf (bit on 7 + n.val)).toNat % 64 = n.val := by decide
  exact hall on ⟨minute, by omega⟩

theorem schedMode_byte (m : SchedMode) : schedModeOfCode (byteOf (schedModeCode m)).toNat = some m := by cases m <;> rfl

theorem decodeEntry_encodeEntry {e : SchedEntry} (h1 : e.hourOn = true → e.hour ≤ 23) (h2 : e.hourOn = false → e.hour = 0)
    (h3 : e.minuteOn = true → e.minute ≤ 59) (h4 : e.minuteOn = false → e.minute = 0) :
    decodeEntry (encodeEntry (some e)) = some (some e) := by
  have hhour : e.hour ≤ 23 := by cases h : e.hourOn; exacts [by rw [h2 h]; omega, h1 h]
  have hminute : e.minute ≤ 59 := by cases h : e.minuteOn; exacts [by rw [h4 h]; omega, h3 h]
  obtain ⟨hd7, hdays⟩ := days_byte e.days
  obtain ⟨hh7, hh⟩ := hour_byte e.hourOn hhour
  obtain ⟨hm7, hm⟩ := minute_byte e.minuteOn hminute
  have hrange : ¬ outOfRange (encodeEntry (some e)) := by
    rintro (⟨_, h⟩ | ⟨_, h⟩)
    · exact absurd (hh ▸ h) (by omega)
    · exact absurd (hm ▸ h) (by omega)
  rw [(decodeEntry_known (e := encodeEntry (some e)) hd7 (schedMode_byte e.mode)).2 hrange]
  have hsame : entryOfBytes (encodeEntry (some e)) e.mode = e := by
    have hhour' : (if e.hourOn then e.hour else 0) = e.hour := by
      cases h : e.hourOn
      exacts [(h2 h).symm, rfl]
    have hminute' : (if e.minuteOn then e.minute else 0) = e.minute := by
      cases h : e.minuteOn
      exacts [(h4 h).symm, rfl]
    simp only [entryOfBytes, encodeEntry, hdays, hh7, hh, hm7, hm, hhour', hminute']
  rw [hsame]

end Sys2Proof.Machine
end

section
/-! SUPPORT. The frames, the smaller replies and the characters bit by bit, and the statement O54. -/

namespace Sys2Proof.Machine

-- One proof after the other, so that the check of the whole text stays within its limit of threads.
set_option Elab.async false

/-! ### Frames (R189, R190) -/

theorem framesLaidOut_holds : framesLaidOut := by
  refine ⟨fun kind j => ?_, fun v r x => ⟨rfl, rfl, rfl, rfl, rfl, rfl, rfl, rfl, rfl⟩, fun x h => ⟨rfl, terms_fields h⟩,
    fun r h1 h2 h3 h4 => ⟨rfl, status_fields h1 h2 h3 h4⟩, by decide, by decide, by decide⟩
  rw [headerByte, Nat.mul_comm]
  rfl

/-! ### The panel's smaller messages (R191) -/

theorem days_bits (days : BitVec 7) (i : Fin 7) : (byteOf (128 + days.toNat)).getLsbD i = days.getLsbD i := by
  revert days i
  decide +kernel

theorem flags_four (b0 b1 b2 b3 : Bool) :
    let f := byteOf (bit b0 0 + bit b1 1 + bit b2 2 + bit b3 3)
    f.getLsbD 0 = b0 ∧ f.getLsbD 1 = b1 ∧ f.getLsbD 2 = b2 ∧ f.getLsbD 3 = b3 := by
  revert b0 b1 b2 b3
  decide

/-- A queue entry's first byte. -/
theorem entry_byte (j : Fin 16) (shadow holds : Bool) :
    let f := byteOf (j.val + bit shadow 4 + bit holds 5)
    f.toNat % 16 = j.val ∧ f.getLsbD 4 = shadow ∧ f.getLsbD 5 = holds := by
  revert j shadow holds
  decide

theorem tally_laidOut (s : State) : tallyData s =
    [match s.line.tally.sender with
      | none => 255
      | some j => BitVec.ofNat 8 j.val,
     BitVec.ofNat 8 s.line.tally.received, BitVec.ofNat 8 s.line.tally.mismatched,
     match s.line.run with
      | none => 0
      | some r => BitVec.ofNat 8 r.remaining,
     BitVec.ofNat 8 s.line.collisions] := by
  unfold tallyData
  cases s.line.tally.sender <;> cases s.line.run <;> rfl

theorem repliesLaidOut_holds : repliesLaidOut := by
  refine ⟨fun e hhour hminute => ?_, rfl, fun s => ⟨_, rfl, flags_four _ _ _ _⟩, fun s e => ⟨_, rfl, entry_byte _ _ _⟩,
    tally_laidOut⟩
  obtain ⟨hh7, hh⟩ := hour_byte e.hourOn hhour
  obtain ⟨hm7, hm⟩ := minute_byte e.minuteOn hminute
  refine ⟨rfl, (days_byte e.days).1, days_bits e.days, hh7, hh, hm7, hm, ?_⟩
  show byteOf (schedModeCode e.mode) = _
  cases e.mode <;> rfl

/-! ### Characters (R3) -/

theorem charLevels_bit (b : Byte) (i : Fin 8) :
    (charLevels b)[i.val + 1] = if b.getLsbD i then Level.recessive else Level.dominant := by
  fin_cases i <;> rfl

theorem receiveChar_badStop (b : Byte) :
    receiveChar ((charLevels b).set 9 .dominant) = some { byte := b, stopGood := false } := by
  revert b
  decide +kernel

/-- A recessive start bit is a glitch. -/
theorem receiveChar_glitch {c : CharLevels} (h : c.get 0 = Level.recessive) : receiveChar c = none :=
  if_pos (decide_eq_true h)

theorem levels_length (bytes : List Byte) : (lineLevels bytes).length = 10 * bytes.length := by
  induction bytes with
  | nil => rfl
  | cons b rest ih =>
    show ((charLevels b).toList ++ lineLevels rest).length = _
    rw [List.length_append, ih, Vector.length_toList, List.length_cons]
    omega

theorem charactersLaidOut_holds : charactersLaidOut := by
  refine ⟨fun b => ⟨rfl, rfl, charLevels_bit b, receiveChar_charLevels b, receiveChar_badStop b⟩,
    fun c => receiveChar_glitch, receiveChars_charLevels, fun f => levels_length f.bytes, fun f b rest h => ?_⟩
  show lineLevels f.bytes = _
  rw [h]
  rfl

/-! ### Decoders -/

theorem decodersJudge_holds : decodersJudge := by
  refine ⟨decodeStatus_none, usable_terms_iff, decodeTerms_none, newerVersion_iff, agrees_iff, decodeEntry_none,
    decodeEntry_someNone, fun e x h => ?_⟩
  obtain ⟨hmode, hx⟩ := decodeEntry_some h
  rw [schedModeOfCode_some hmode]
  generalize x.mode = m at hx ⊢
  subst hx
  refine ⟨fun i => ?_, rfl, rfl, rfl, rfl, ?_⟩
  · show (e.b0.extractLsb' 0 7).getLsbD i = _
    simp
  · cases m <;> rfl

/-- Settles O54: each payload carries each field in bytes of its own, so the decoders read back what was encoded. -/
theorem layoutsRoundTrip : Obligations.LayoutsRoundTrip :=
  ⟨fun _ => decodeStatus_encodeStatus, fun _ => decodeTerms_encodeTerms, fun _ _ => encodeTerms_decoded,
    fun _ => decodeEntry_encodeEntry, rfl, framesLaidOut_holds, repliesLaidOut_holds, charactersLaidOut_holds,
    decodersJudge_holds⟩

end Sys2Proof.Machine
end

section
/-! SUPPORT. The end of LISTEN and what follows from the terms coming into force: the statement O24. -/

namespace Sys2Proof.Machine

-- One proof after the other, so that the check of the whole text stays within its limit of threads.
set_option Elab.async false

/-! ### The selection (R54) -/

/-- The panel set, or the defaults with none. -/
def candidateOf (j : Join) : Terms × TermsSource :=
  match j.panelSet with
  | some p => (p, .panel)
  | none => (Terms.defaults, .defaults)

theorem candidateOf_eq (j : Join) :
    candidateOf j = (j.panelSet.getD Terms.defaults, if j.panelSet.isSome then .panel else .defaults) := by
  unfold candidateOf
  cases j.panelSet <;> rfl

/-- The override strap as it was read. -/
def overrides (j : Join) : Bool :=
  match j.straps with
  | some x => x.override
  | none => false

theorem selectTerms_overridden {j : Join} (h : overrides j = true) :
    selectTerms j = ((candidateOf j).1, (candidateOf j).2, false) := if_pos h

theorem selectTerms_unheard {j : Join} (h : j.best = none) : selectTerms j = ((candidateOf j).1, (candidateOf j).2, false) := by
  have hshape : selectTerms j = if overrides j = true then ((candidateOf j).1, (candidateOf j).2, false) else
      match j.best with
      | none => ((candidateOf j).1, (candidateOf j).2, false)
      | some b =>
        if newerVersion b.terms.version (candidateOf j).1.version then (b.terms, .heard b.sender, b.conflict)
        else if b.terms.version = (candidateOf j).1.version then
          (b.terms, .heard b.sender, b.conflict || (j.panelSet.isSome && !(candidateOf j).1.agrees b.terms))
        else ((candidateOf j).1, (candidateOf j).2, false) := rfl
  rw [hshape, h, ite_self]

theorem selectTerms_heard {j : Join} {b : BestHeard} (ho : overrides j = false) (hb : j.best = some b) : selectTerms j =
    if newerVersion b.terms.version (candidateOf j).1.version then (b.terms, .heard b.sender, b.conflict)
    else if b.terms.version = (candidateOf j).1.version then
      (b.terms, .heard b.sender, b.conflict || (j.panelSet.isSome && !(candidateOf j).1.agrees b.terms))
    else ((candidateOf j).1, (candidateOf j).2, false) := by
  unfold selectTerms
  rw [hb]
  exact if_neg (show ¬ overrides j = true by rw [ho]; decide)

/-! ### The hold limit coming into force (R126, R127) -/

/-- The copy without the entries of some stations. -/
def Queue.without (q : Queue) (l : List Station) : Queue := { q with entries := q.entries.filter (fun e => e.station ∉ l) }

theorem without_cons (q : Queue) (j : Station) (l : List Station) : (q.drop j).without l = q.without (j :: l) := by
  simp only [Queue.without, Queue.drop, withoutStation, List.filter_filter, List.mem_cons, not_or]
  congr 2
  funext e
  simp [Bool.and_comm]

/-- From s to u only the queue copy, the re-take timer and the event flags have moved. -/
def HoldsOnly (s u : State) : Prop :=
  u = { s with queue := u.queue, frost := { s.frost with reTake := u.frost.reTake }, events := u.events }

theorem expireHold_only (j : Station) (s : State) : HoldsOnly s (expireHold j s) := by
  simp only [expireHold]
  split <;> rfl

theorem HoldsOnly.trans {s u v : State} (h : HoldsOnly s u) (k : HoldsOnly u v) : HoldsOnly s v := by
  unfold HoldsOnly at *
  rw [k, h]

theorem expireHolds_only (l : List Station) (s : State) : HoldsOnly s (l.foldl (fun t j => expireHold j t) s) := by
  induction l generalizing s with
  | nil => rfl
  | cons j l ih => exact (expireHold_only j s).trans (ih _)

theorem expireHold_queue (j : Station) (s : State) : (expireHold j s).queue = s.queue.drop j := by
  simp only [expireHold]
  split <;> rfl

theorem expireHolds_queue (l : List Station) (s : State) :
    (l.foldl (fun t j => expireHold j t) s).queue = s.queue.without l := by
  induction l generalizing s with
  | nil => simp [Queue.without]
  | cons j l ih => rw [List.foldl_cons, ih, expireHold_queue, without_cons]

theorem expireHold_own {s : State} {j : Station} (h : ownNumber s = some j) :
    (expireHold j s).frost.reTake = some (seconds 120) ∧ raised .holdOverrun (expireHold j s) = true := by
  have hown : isOwn s j = true := decide_eq_true h
  simp only [expireHold, hown, if_true]
  exact ⟨rfl, raise_raised _ _⟩

theorem expireHold_other {s : State} {j : Station} (h : ownNumber s ≠ some j) : (expireHold j s).frost = s.frost := by
  have hown : isOwn s j = false := decide_eq_false h
  simp only [expireHold, hown]
  rfl

theorem expireHold_number (j : Station) (s : State) : ownNumber (expireHold j s) = ownNumber s := by
  have h : (expireHold j s).join = s.join := by rw [expireHold_only j s]
  simp only [ownNumber, h]

/-- The expiry of several holds, told to the station when its own is among them. -/
theorem expireHolds_reTake (l : List Station) (s : State) : let t := l.foldl (fun t j => expireHold j t) s
    ((∃ j ∈ l, ownNumber s = some j) → t.frost.reTake = some (seconds 120) ∧ raised .holdOverrun t = true) ∧
    ((∀ j ∈ l, ownNumber s ≠ some j) → t.frost = s.frost) := by
  induction l generalizing s with
  | nil => exact ⟨fun ⟨_, hj, _⟩ => absurd hj List.not_mem_nil, fun _ => rfl⟩
  | cons j l ih =>
    obtain ⟨hown, hother⟩ := ih (expireHold j s)
    simp only [expireHold_number] at hown hother
    refine ⟨fun ⟨i, hi, hni⟩ => ?_, fun h => ?_⟩
    · by_cases hl : ∃ i ∈ l, ownNumber s = some i
      · exact hown hl
      · have hj : ownNumber s = some j := by
          rcases List.mem_cons.mp hi with rfl | hi
          exacts [hni, absurd ⟨i, hi, hni⟩ hl]
        obtain ⟨hreTake, hraised⟩ := expireHold_own hj
        exact ⟨by rw [List.foldl_cons, hother fun i hi hni => hl ⟨i, hi, hni⟩, hreTake],
          (Moves.foldl (m := {}) _ (fun t j => expireHold_moves j t) l _).frame.flags rfl _ hraised⟩
    · rw [List.foldl_cons, hother fun i hi => h i (List.mem_cons_of_mem _ hi), expireHold_other (h j List.mem_cons_self)]

theorem expireOverdue_only (s : State) : HoldsOnly s (expireOverdue s) := expireHolds_only _ s

theorem mem_heldTooLong {s : State} {j : Station} :
    j ∈ heldTooLong s ↔ ∃ e ∈ s.queue.entries, s.join.terms.holdLimit * 64 ≤ e.hold ∧ e.station = j := by
  have hs : seconds s.join.terms.holdLimit = s.join.terms.holdLimit * 64 := rfl
  simp only [heldTooLong, List.mem_map, List.mem_filter, decide_eq_true_eq, hs, and_assoc]

/-- With one entry for each station only the entries at the limit go. -/
theorem expireOverdue_queue {s : State} (h : queueRuled s) :
    (expireOverdue s).queue = belowHoldLimit s.join.terms s.queue := by
  rw [expireOverdue, expireHolds_queue]
  unfold Queue.without belowHoldLimit
  congr 1
  refine List.filter_congr fun e he => decide_eq_decide.mpr ?_
  rw [mem_heldTooLong, ← not_le, not_iff_not]
  refine ⟨fun ⟨x, hx, hhold, hstation⟩ => ?_, fun hhold => ⟨e, he, hhold, rfl⟩⟩
  rwa [← List.inj_on_of_nodup_map h hx he hstation]

end Sys2Proof.Machine
end

section
/-! SUPPORT. The end of LISTEN, stage by stage: the statement O24. -/

namespace Sys2Proof.Machine

-- One proof after the other, so that the check of the whole text stays within its limit of threads.
set_option Elab.async false

/-! ### The terms in force and the threshold (R20, R47) -/

theorem joinWith_join (s : State) : (joinWith s).join = { s.join with
    membership := .joined, terms := (selectTerms s.join).1, source := (selectTerms s.join).2.1, best := none, listenTicks := 3 } := by
  simp only [joinWith, raiseIf_join]

theorem joinWith_out (s : State) :
    (joinWith s).out = { s.out with terms := if s.out.terms = some .query then none else s.out.terms } := by
  simp only [joinWith, raiseIf_out]

theorem joinWith_rest (s : State) : (joinWith s).line = s.line ∧ (joinWith s).peers = s.peers ∧ (joinWith s).queue = s.queue ∧
    (joinWith s).frost = s.frost ∧ (joinWith s).filters = s.filters ∧ (joinWith s).clock = s.clock ∧
    (joinWith s).mode = s.mode ∧ (joinWith s).panel = s.panel := by
  simp only [joinWith, raiseIf_line, raiseIf_peers, raiseIf_queue, raiseIf_frost, raiseIf_filters, raiseIf_clock, raiseIf_mode,
    raiseIf_panel, and_self]

theorem joinWith_conflict {s : State} (h : (selectTerms s.join).2.2 = true) : raised .termsConflict (joinWith s) = true := by
  rw [joinWith, h, raiseIf_true]
  exact raise_raised _ _

theorem requestStatus_eq (s : State) : requestStatus s = { s with out := { s.out with status := permitted s .status || s.out.status } } := by
  unfold requestStatus
  cases h : permitted s .status <;> rfl

/-- A station JOINED on a line that is CLEAR or in DOUBT may send its STATUS. -/
theorem permitted_status {s : State} (hj : s.join.membership = .joined) (hc : s.line.condition = .clear ∨ s.line.condition = .doubt) :
    permitted s .status = true := by
  rcases hc with hc | hc <;> simp [permitted, hj, hc]

/-- The state that the terms find: JOINED, the first STATUS asked for. -/
def joinedNow (s : State) : State := requestStatus (joinWith s)

theorem joinedNow_join (s : State) : (joinedNow s).join = { s.join with
    membership := .joined, terms := (selectTerms s.join).1, source := (selectTerms s.join).2.1, best := none, listenTicks := 3 } := by
  rw [joinedNow, requestStatus_eq, joinWith_join]

theorem joinedNow_rest (s : State) : (joinedNow s).line = s.line ∧ (joinedNow s).peers = s.peers ∧ (joinedNow s).queue = s.queue ∧
    (joinedNow s).frost = s.frost ∧ (joinedNow s).filters = s.filters ∧ (joinedNow s).clock = s.clock ∧
    (joinedNow s).mode = s.mode ∧ (joinedNow s).panel = s.panel := by
  rw [joinedNow, requestStatus_eq]
  exact joinWith_rest s

theorem joinedNow_status {s : State} (hc : s.line.condition = .clear ∨ s.line.condition = .doubt) :
    (joinedNow s).out.status = true := by
  rw [joinedNow, requestStatus_eq]
  have h := permitted_status (s := joinWith s) (by rw [joinWith_join]) (by rw [(joinWith_rest s).1]; exact hc)
  show (permitted (joinWith s) .status || _) = true
  rw [h, Bool.true_or]

theorem joinedNow_terms (s : State) : (joinedNow s).out.terms = if s.out.terms = some .query then none else s.out.terms := by
  rw [joinedNow, requestStatus_eq, joinWith_out]

theorem applyThreshold_over {s : State} (h1 : s.line.condition = .clear) (h2 : s.join.terms.errorThreshold ≤ s.line.errors) :
    applyThreshold s = enterDoubt s := by simp [applyThreshold, h1, h2]

theorem applyThreshold_within {s : State} (h : s.line.condition ≠ .clear ∨ s.line.errors < s.join.terms.errorThreshold) :
    applyThreshold s = s := by
  have hn : ¬ (s.line.condition = .clear ∧ s.join.terms.errorThreshold ≤ s.line.errors) :=
    fun ⟨h1, h2⟩ => h.elim (fun h => h h1) (fun h => absurd h2 (Nat.not_le.mpr h))
  exact if_neg (by simpa using hn)

theorem applyThreshold_rest (s : State) : (applyThreshold s).join = s.join ∧ (applyThreshold s).peers = s.peers ∧
    (applyThreshold s).queue = s.queue ∧ (applyThreshold s).frost = s.frost ∧ (applyThreshold s).filters = s.filters ∧
    (applyThreshold s).clock = s.clock ∧ (applyThreshold s).mode = s.mode ∧ (applyThreshold s).panel = s.panel ∧
    (applyThreshold s).line.errors = s.line.errors ∧ (applyThreshold s).out.status = s.out.status ∧
    (applyThreshold s).out.terms = s.out.terms := by
  unfold applyThreshold
  split
  · simp [enterDoubt, withdrawForDoubt, setCondition]
  · exact ⟨rfl, rfl, rfl, rfl, rfl, rfl, rfl, rfl, rfl, rfl, rfl⟩

/-! ### What the terms in force move (R55, R87, R126, R152, R162) -/

/-- The state in which the other blocks take the terms. -/
def thresholdTaken (s : State) : State := applyThreshold (joinedNow s)

theorem thresholdTaken_join (s : State) : (thresholdTaken s).join = { s.join with
    membership := .joined, terms := (selectTerms s.join).1, source := (selectTerms s.join).2.1, best := none, listenTicks := 3 } := by
  rw [thresholdTaken, (applyThreshold_rest _).1, joinedNow_join]

/-- The skew evaluated for the terms in force. -/
def skewTaken (s : State) : State := evaluateSkew (expireOverdue (thresholdTaken s))

theorem endListen_eq (s : State) : endListen s = formStates (refloorTrim (evaluate (skewTaken s))) := rfl

theorem refloorTrim_only (s : State) : FilterOnly s (refloorTrim s) := by
  unfold refloorTrim
  split <;> rfl

theorem listenForm_only (s : State) : FilterOnly (evaluate (skewTaken s)) (endListen s) :=
  (refloorTrim_only _).trans (formStates_only _)

theorem evaluateSkew_out (s : State) : (evaluateSkew s).out = s.out := by
  unfold evaluateSkew
  split
  · rw [evaluate_out, raiseIf_out]
  · rfl

theorem FilterOnly.frame {s u : State} (h : FilterOnly s u) : u.line = s.line ∧ u.out = s.out ∧ u.peers = s.peers ∧
    u.queue = s.queue ∧ u.frost = s.frost ∧ u.clock = s.clock ∧ u.mode = s.mode ∧ u.panel = s.panel ∧ u.join = s.join ∧
    u.stack = s.stack ∧ u.own = s.own ∧ u.nv = s.nv := by
  rw [h]
  exact ⟨rfl, rfl, rfl, rfl, rfl, rfl, rfl, rfl, rfl, rfl, rfl, rfl⟩

theorem HoldsOnly.frame {s u : State} (h : HoldsOnly s u) : u.line = s.line ∧ u.out = s.out ∧ u.peers = s.peers ∧
    u.join = s.join ∧ u.filters = s.filters ∧ u.clock = s.clock ∧ u.mode = s.mode ∧ u.panel = s.panel ∧ u.nv = s.nv ∧
    u.sensors = s.sensors ∧ u.stack = s.stack := by
  rw [h]
  exact ⟨rfl, rfl, rfl, rfl, rfl, rfl, rfl, rfl, rfl, rfl, rfl⟩

/-- What the skew, the evaluation and the forming leave of the blocks beside them. -/
theorem endListen_frame (s : State) : (endListen s).line = (thresholdTaken s).line ∧ (endListen s).out = (thresholdTaken s).out ∧
    (endListen s).peers = s.peers ∧ (endListen s).queue = (expireOverdue (thresholdTaken s)).queue ∧
    (endListen s).frost = (expireOverdue (thresholdTaken s)).frost ∧ (endListen s).clock = s.clock ∧
    (endListen s).mode = s.mode ∧ (endListen s).panel = s.panel := by
  obtain ⟨_, hpeers, _, _, _, hclock, hmode, hpanel⟩ := joinedNow_rest s
  obtain ⟨_, apeers, _, _, _, aclock, amode, apanel, _⟩ := applyThreshold_rest (joinedNow s)
  obtain ⟨xline, xout, xpeers, _, _, xclock, xmode, xpanel, _⟩ := (expireOverdue_only (thresholdTaken s)).frame
  obtain ⟨kpeers, kqueue, kclock, kfrost, _, kmode⟩ := evaluateSkew_rest (expireOverdue (thresholdTaken s))
  obtain ⟨fline, fout, fpeers, fqueue, ffrost, fclock, fmode, fpanel, _⟩ := (listenForm_only s).frame
  refine ⟨?_, ?_, ?_, ?_, ?_, ?_, ?_, ?_⟩
  · rw [fline, evaluate_line, skewTaken, evaluateSkew_line, xline]
  · rw [fout, evaluate_out, skewTaken, evaluateSkew_out, xout]
  · rw [fpeers, evaluate_peers, skewTaken, kpeers, xpeers, thresholdTaken, apeers, hpeers]
  · rw [fqueue, evaluate_queue, skewTaken, kqueue]
  · rw [ffrost, evaluate_frost, skewTaken, kfrost]
  · rw [fclock, evaluate_clock, skewTaken, kclock, xclock, thresholdTaken, aclock, hclock]
  · rw [fmode, evaluate_mode, skewTaken, kmode, xmode, thresholdTaken, amode, hmode]
  · rw [fpanel, evaluate_panel, skewTaken, evaluateSkew_panel, xpanel, thresholdTaken, apanel, hpanel]

theorem expireOverdue_join (s : State) : (expireOverdue (thresholdTaken s)).join = (thresholdTaken s).join :=
  (expireOverdue_only _).frame.2.2.2.1

theorem endListen_join (s : State) : (endListen s).join = { s.join with
    membership := .joined, terms := (selectTerms s.join).1, source := (selectTerms s.join).2.1, best := none, listenTicks := 3,
    skew := skewNow (endListen s) } := by
  have hjoin : (endListen s).join = { (thresholdTaken s).join with skew := skewNow (expireOverdue (thresholdTaken s)) } := by
    obtain ⟨_, _, _, _, _, _, _, _, fjoin, _⟩ := (listenForm_only s).frame
    rw [fjoin, evaluate_join, skewTaken, evaluateSkew_join, expireOverdue_join, if_pos (by rw [thresholdTaken_join])]
  have hpeers : (endListen s).peers = (expireOverdue (thresholdTaken s)).peers := by
    obtain ⟨_, hpeers, _⟩ := joinedNow_rest s
    obtain ⟨_, apeers, _⟩ := applyThreshold_rest (joinedNow s)
    rw [(endListen_frame s).2.2.1, (expireOverdue_only _).frame.2.2.1, thresholdTaken, apeers, hpeers]
  have hskew : skewNow (endListen s) = skewNow (expireOverdue (thresholdTaken s)) :=
    skewNow_congr hpeers (by rw [hjoin, expireOverdue_join])
  rw [hskew, hjoin, thresholdTaken_join]

/-- The flags raised on the way are there at the end. -/
theorem endListen_keeps_skew {s : State} {g : EventFlag} (h : raised g (skewTaken s) = true) : raised g (endListen s) = true := by
  rw [endListen_eq]
  have hk : raised g (evaluate (skewTaken s)) = true := evaluate_keeps g _ h
  have hr : raised g (refloorTrim (evaluate (skewTaken s))) = true := (refloorTrim_free (m := {}) _).flags rfl _ hk
  exact (formStates_free (m := {}) _).flags rfl _ hr

theorem endListen_keeps_hold {s : State} {g : EventFlag} (h : raised g (expireOverdue (thresholdTaken s)) = true) :
    raised g (endListen s) = true := endListen_keeps_skew (evaluateSkew_keeps g h)

theorem endListen_keeps {s : State} (g : EventFlag) (h : raised g (thresholdTaken s) = true) : raised g (endListen s) = true := by
  have hx : raised g (expireOverdue (thresholdTaken s)) = true := (expireOverdue_moves (m := {}) _).frame.flags rfl _ h
  exact endListen_keeps_hold hx

theorem endListen_conflict {s : State} (h : (selectTerms s.join).2.2 = true) : raised .termsConflict (endListen s) = true :=
  endListen_keeps _ ((applyThreshold_moves (m := {}) _).frame.flags rfl _
    ((requestStatus_free (m := {}) _).flags rfl _ (joinWith_conflict h)))

theorem evaluateSkew_raised {s : State} (hm : s.join.membership = .joined) (h : s.join.skew = false) (hn : skewNow s = true) :
    raised .termsSkew (evaluateSkew s) = true := by
  rw [evaluateSkew_changes hm (by rw [hn, h]; decide), hn, raiseIf_true]
  exact evaluate_raise _ _

theorem endListen_skewNow (s : State) : skewNow (expireOverdue (thresholdTaken s)) = skewNow (endListen s) := by
  refine (skewNow_congr ?_ ?_).symm
  · obtain ⟨_, hpeers, _⟩ := joinedNow_rest s
    obtain ⟨_, apeers, _⟩ := applyThreshold_rest (joinedNow s)
    rw [(endListen_frame s).2.2.1, (expireOverdue_only _).frame.2.2.1, thresholdTaken, apeers, hpeers]
  · rw [endListen_join, expireOverdue_join, thresholdTaken_join]

theorem endListen_skew {s : State} (h : s.join.skew = false) (hn : skewNow (endListen s) = true) :
    raised .termsSkew (endListen s) = true := by
  have hskew : raised .termsSkew (skewTaken s) = true :=
    evaluateSkew_raised (by rw [expireOverdue_join, thresholdTaken_join]) (by rw [expireOverdue_join, thresholdTaken_join]; exact h)
      (by rw [endListen_skewNow, hn])
  exact endListen_keeps_skew hskew

/-! ### The trim and the filter states (R152, R162) -/

/-- The state whose filter states are formed. -/
def trimTaken (s : State) : State := refloorTrim (evaluate (skewTaken s))

theorem trimTaken_filters (s : State) : (trimTaken s).filters = { s.filters with
    trim := if s.filters.fromFloor then (selectTerms s.join).1.trimFloor else s.filters.trim } := by
  have hf : (evaluate (skewTaken s)).filters = s.filters := by
    obtain ⟨_, _, _, _, hfilters, _⟩ := joinedNow_rest s
    obtain ⟨_, _, _, _, afilters, _⟩ := applyThreshold_rest (joinedNow s)
    obtain ⟨_, _, _, _, xfilters, _⟩ := (expireOverdue_only (thresholdTaken s)).frame
    obtain ⟨_, _, _, _, kfilters, _⟩ := evaluateSkew_rest (expireOverdue (thresholdTaken s))
    rw [evaluate_filters, skewTaken, kfilters, xfilters, thresholdTaken, afilters, hfilters]
  have hterms : (evaluate (skewTaken s)).join.terms = (selectTerms s.join).1 := by
    rw [evaluate_join, skewTaken, evaluateSkew_join, expireOverdue_join, thresholdTaken_join]
    rfl
  have hshape : ∀ u : State, (refloorTrim u).filters = { u.filters with
      trim := if u.filters.fromFloor then u.join.terms.trimFloor else u.filters.trim } := fun u => by
    unfold refloorTrim
    split <;> rfl
  rw [trimTaken, hshape, hf, hterms]

theorem endListen_trim (s : State) : (endListen s).filters.trim =
      (if s.filters.fromFloor then (endListen s).join.terms.trimFloor else s.filters.trim) ∧
    (endListen s).filters.fromFloor = s.filters.fromFloor := by
  have h : (endListen s).filters = (formStates (trimTaken s)).filters := rfl
  rw [h, formStates_filters, trimTaken_filters, endListen_join]
  exact ⟨rfl, rfl⟩

theorem endListen_formed (s : State) : statesFormed s (settle (endListen s)) := by
  have hfilter : ∀ d, filterOf (trimTaken s) d = filterOf s d := fun d => by
    cases d <;> simp only [filterOf, trimTaken_filters]
  obtain ⟨_, _, fpeers, _, _, _, _, _, fjoin, _⟩ := (formStates_only (trimTaken s)).frame
  exact statesFormed_of_formStates (u := trimTaken s) hfilter (fun d => settle_filterOf _ _)
    ((settle_peers _).trans fpeers) (by rw [settle_join]; exact congrArg Join.terms fjoin) fun h => settle_keeps _ _ h

/-! ### The end of LISTEN as an event -/

theorem endListen_capFormed (s : State) : capFormed (endListen s) := by
  have h : capFormed (evaluate (skewTaken s)) := evaluate_capFormed _
  exact (formStates_free (m := {}) _).moves.cap ((refloorTrim_free (m := {}) _).moves.cap h)

theorem listenEnded_settle (s : State) : listenEnded s (settle (endListen s)) := by
  obtain ⟨fline, fout, fpeers, _⟩ := endListen_frame s
  obtain ⟨hline, _⟩ := joinedNow_rest s
  obtain ⟨_, _, _, _, _, _, _, _, aerrors, astatus, aterms⟩ := applyThreshold_rest (joinedNow s)
  have hterms : (joinedNow s).join.terms = (selectTerms s.join).1 := by rw [joinedNow_join]
  have hskew : skewNow (settle (endListen s)) = skewNow (endListen s) := skewNow_congr (settle_peers _) (by rw [settle_join])
  unfold listenEnded
  rw [hskew, settle_join, endListen_join, settle_line, fline, settle_out_terms, settle_out_status, settle_out_test, fout]
  refine ⟨rfl, rfl, rfl, rfl, rfl, rfl, ?_, fun h hn => settle_keeps _ _ (endListen_skew h hn),
    fun h => settle_keeps _ _ (endListen_conflict h), aterms.trans (joinedNow_terms s),
    fun h => astatus.trans (joinedNow_status h), fun h1 h2 => ?_, fun h => ?_, aerrors.trans (by rw [hline]), ?_, ?_,
    endListen_formed s, settle_capFormed (endListen_capFormed s)⟩
  · dsimp only
  · have hover : thresholdTaken s = enterDoubt (joinedNow s) :=
      applyThreshold_over (by rw [hline]; exact h1) (by rw [hline, hterms]; exact h2)
    have hcondition : (thresholdTaken s).line.condition = .doubt := by rw [hover, enterDoubt_line]
    refine ⟨hcondition, settle_keeps _ _ (endListen_keeps _ (by rw [hover]; exact enterDoubt_raised _)),
      settle_take_off ?_ ?_, ?_⟩
    · rw [fline, hcondition]; decide
    · rw [fout, hover, enterDoubt_out]
    · rw [hover, enterDoubt_out]
  · rw [thresholdTaken, applyThreshold_within (by rw [hline, hterms]; exact h), hline]
  · rw [settle_filters_trim, (endListen_trim s).1, endListen_join]
  · rw [settle_filters_fromFloor, (endListen_trim s).2]

/-- Of the state before it the end of LISTEN reads the line, the frames pending, the join unit and the filters. -/
theorem listenEnded_congr {s v t : State} (h : listenEnded v t) (hline : v.line = s.line) (hout : v.out = s.out)
    (hjoin : v.join = s.join) (hfilters : v.filters = s.filters) : listenEnded s t := by
  have hf : ∀ d, filterOf v d = filterOf s d := fun d => by cases d <;> simp only [filterOf, hfilters]
  unfold listenEnded statesFormed at *
  simp only [hline, hout, hjoin, hfilters, hf] at h
  exact h

/-- The copy after the end of LISTEN (R126). -/
theorem endListen_queue {s : State} (h : queueRuled s) :
    (endListen s).queue = belowHoldLimit (endListen s).join.terms s.queue := by
  obtain ⟨_, _, hqueue, _⟩ := joinedNow_rest s
  obtain ⟨_, _, aqueue, _⟩ := applyThreshold_rest (joinedNow s)
  have hq : (thresholdTaken s).queue = s.queue := by rw [thresholdTaken, aqueue, hqueue]
  obtain ⟨_, _, _, fqueue, _⟩ := endListen_frame s
  rw [fqueue, expireOverdue_queue (by unfold queueRuled; rw [hq]; exact h), hq, endListen_join, thresholdTaken_join]

theorem expireOverdue_reTake (s : State) :
    ((∃ j ∈ heldTooLong s, ownNumber s = some j) →
      (expireOverdue s).frost.reTake = some (seconds 120) ∧ raised .holdOverrun (expireOverdue s) = true) ∧
    ((∀ j ∈ heldTooLong s, ownNumber s ≠ some j) → (expireOverdue s).frost = s.frost) := expireHolds_reTake (heldTooLong s) s

/-- An own entry at the limit is a hold overrun (R127). -/
theorem endListen_overdue (s t : State) (ht : endListen s = t) :
    let overdue : Prop := ∃ e ∈ s.queue.entries, ownNumber s = some e.station ∧ t.join.terms.holdLimit * 64 ≤ e.hold
    (overdue → t.frost.reTake = some (seconds 120) ∧ raised .holdOverrun t = true) ∧ (¬ overdue → t.frost.reTake = s.frost.reTake) := by
  intro overdue
  subst ht
  obtain ⟨_, _, hqueue, hfrost, _⟩ := joinedNow_rest s
  obtain ⟨_, _, aqueue, afrost, _⟩ := applyThreshold_rest (joinedNow s)
  have hq : (thresholdTaken s).queue = s.queue := by rw [thresholdTaken, aqueue, hqueue]
  have hf : (thresholdTaken s).frost = s.frost := by rw [thresholdTaken, afrost, hfrost]
  have hnumber : ownNumber (thresholdTaken s) = ownNumber s := by simp only [ownNumber, thresholdTaken_join]
  have hlimit : (thresholdTaken s).join.terms = (endListen s).join.terms := by rw [thresholdTaken_join, endListen_join]
  obtain ⟨_, _, _, _, ffrost, _⟩ := endListen_frame s
  obtain ⟨hown, hother⟩ := expireOverdue_reTake (thresholdTaken s)
  have hiff : (∃ j ∈ heldTooLong (thresholdTaken s), ownNumber (thresholdTaken s) = some j) ↔ overdue := by
    simp only [mem_heldTooLong, hq, hnumber, hlimit]
    constructor
    · rintro ⟨_, ⟨e, he, hhold, rfl⟩, hj⟩
      exact ⟨e, he, hj, hhold⟩
    · rintro ⟨e, he, hj, hhold⟩
      exact ⟨_, ⟨e, he, hhold, rfl⟩, hj⟩
  refine ⟨fun h => ?_, fun h => ?_⟩
  · obtain ⟨hreTake, hraised⟩ := hown (hiff.mpr h)
    exact ⟨by rw [ffrost, hreTake], endListen_keeps_hold hraised⟩
  · rw [← hiff] at h
    rw [ffrost, hother fun j hj hn => h ⟨j, hj, hn⟩, hf]

theorem endListen_nv (s : State) : (endListen s).nv = s.nv := (endListen_moves (m := {}) s).frame.record rfl

/-- Settles O24. -/
theorem endOfListenSelectsTerms : Obligations.EndOfListenSelectsTerms := by
  refine ⟨fun j => ?_, fun s hp hl h2 => ?_⟩
  · have hc := candidateOf_eq j
    have h1 : (candidateOf j).1 = j.panelSet.getD Terms.defaults := by rw [hc]
    have h2 : (candidateOf j).2 = if j.panelSet.isSome then .panel else .defaults := by rw [hc]
    intro candidate source
    have hcandidate : (candidateOf j).1 = candidate := h1
    have hsource : (candidateOf j).2 = source := h2
    refine ⟨fun x hx ho => ?_, fun hb => ?_, fun x b hx ho hb => ?_⟩
    · rw [selectTerms_overridden (by rw [overrides, hx]; exact ho), hcandidate, hsource]
    · rw [selectTerms_unheard hb, hcandidate, hsource]
    · rw [selectTerms_heard (by rw [overrides, hx]; exact ho) hb, hcandidate, hsource]
      exact ⟨fun h => if_pos h, fun h hv => (if_neg (by rw [h]; decide)).trans (if_pos hv),
        fun h hv => (if_neg (by rw [h]; decide)).trans (if_neg hv)⟩
  · intro overdue
    have hexec : exec .listenEnd s = .next (settle (endListen s)) := by
      show live s takeListenEnd = _
      rw [live_running hp, takeListenEnd, if_pos (by simp [hl, h2])]
    obtain ⟨_, _, fpeers, _, _, fclock, fmode, fpanel⟩ := endListen_frame s
    obtain ⟨hover, hwithin⟩ := endListen_overdue s _ rfl
    have hdue : overdue (settle (endListen s)) ↔ overdue (endListen s) := by simp only [overdue, settle_join]
    refine ⟨_, hexec, listenEnded_settle s, fun hr => ?_, fun ho => ?_, fun ho => ?_, ?_, ?_, ?_, ?_, ?_⟩
    · rw [settle_queue, endListen_queue hr, settle_join]
    · obtain ⟨hreTake, hraised⟩ := hover (hdue.mp ho)
      exact ⟨settle_keeps _ _ hraised, (settle_reTake _).trans hreTake⟩
    · exact (settle_reTake _).trans (hwithin (mt hdue.mpr ho))
    · rw [settle_peers, fpeers]
    · rw [settle_mode, fmode]
    · rw [settle_clock, fclock]
    · rw [settle_nv, endListen_nv]
    · rw [settle_panel, fpanel]

end Sys2Proof.Machine
end

section
/-! SUPPORT. A round tick in the peer table and in the queue copy: the statement O22. -/

namespace Sys2Proof.Machine

-- One proof after the other, so that the check of the whole text stays within its limit of threads.
set_option Elab.async false

/-! ### The records at a round tick (R25, R37, R38) -/

/-- What each step of a fold keeps, the fold keeps. -/
theorem foldl_same {α β : Type} {f : State → α → State} {g : State → β} (h : ∀ s a, g (f s a) = g s) (l : List α) (s : State) :
    g (l.foldl f s) = g s := by
  induction l generalizing s with
  | nil => rfl
  | cons a l ih => rw [List.foldl_cons, ih, h]

/-- What no departure moves. -/
theorem depart_frame (j : Station) (s : State) : (depart j s).line = s.line ∧ (depart j s).out = s.out ∧
    (depart j s).join = s.join ∧ (depart j s).filters = s.filters ∧ (depart j s).mode = s.mode ∧ (depart j s).nv = s.nv ∧
    (depart j s).sensors = s.sensors ∧ (depart j s).panel = s.panel := by
  simp [depart, formSource]

theorem departs_frame (l : List Station) (s : State) : let u := l.foldl (fun t j => depart j t) s
    u.line = s.line ∧ u.out = s.out ∧ u.join = s.join ∧ u.filters = s.filters ∧ u.mode = s.mode ∧ u.nv = s.nv ∧
    u.sensors = s.sensors ∧ u.panel = s.panel := by
  refine ⟨?_, ?_, ?_, ?_, ?_, ?_, ?_, ?_⟩ <;>
    exact foldl_same (fun s j => by have := depart_frame j s; simp only [this]) l s

/-- The aging asks for the report of a JOINED station and ages every record. -/
theorem agedState_eq (s : State) : agedState s = { s with
    peers := { s.peers with roundTimer := some roundTicks, ticks := s.peers.ticks + 1,
                            records := s.peers.records.map PeerRecord.aged },
    out := { s.out with status := (decide (s.join.membership = .joined) && permitted s .status) || s.out.status } } := by
  unfold agedState
  dsimp only
  by_cases hj : s.join.membership = .joined
  · rw [if_pos hj, decide_eq_true hj, requestStatus_eq]
    rfl
  · rw [if_neg hj, decide_eq_false hj]
    rfl

theorem peersTick_frame (s : State) : (peersTick s).line = s.line ∧ (peersTick s).join = s.join ∧
    (peersTick s).filters = s.filters ∧ (peersTick s).mode = s.mode ∧ (peersTick s).nv = s.nv ∧
    (peersTick s).sensors = s.sensors ∧ (peersTick s).panel = s.panel ∧ (peersTick s).out = (agedState s).out := by
  obtain ⟨line, out, join, filters, mode, nv, sensors, panel⟩ := departs_frame (departing (agedState s)) (agedState s)
  rw [peersTick_eq, line, out, join, filters, mode, nv, sensors, panel, agedState_eq]
  exact ⟨rfl, rfl, rfl, rfl, rfl, rfl, rfl, rfl⟩

theorem departing_aged {s : State} {j : Station} : j ∈ departing (agedState s) ↔ departsNext s j = true := by
  rw [mem_departing, agedState_record, aged_held, departsNext, decide_eq_true_eq, PeerRecord.held, decide_eq_true_eq]
  refine and_congr_right fun h => ?_
  have hage : (s.peers.records.get j).aged.age = (s.peers.records.get j).age + 1 := by
    rw [PeerRecord.aged, if_pos (show PeerRecord.held _ = true from decide_eq_true h)]
  rw [hage]
  omega

theorem departs_peers (l : List Station) (s : State) : let p := (l.foldl (fun t j => depart j t) s).peers
    p.roundTimer = s.peers.roundTimer ∧ p.ticks = s.peers.ticks ∧ p.ownReport = s.peers.ownReport ∧
    p.unusable = s.peers.unusable := by
  have h := foldl_same (f := fun t j => depart j t)
    (g := fun u => (u.peers.roundTimer, u.peers.ticks, u.peers.ownReport, u.peers.unusable))
    (fun s j => by simp only [depart_peers]) l s
  simpa only [Prod.mk.injEq] using h

theorem peersTick_peers (s : State) : (peersTick s).peers.roundTimer = some (seconds 4) ∧
    (peersTick s).peers.ticks = s.peers.ticks + 1 ∧ (peersTick s).peers.ownReport = s.peers.ownReport ∧
    (peersTick s).peers.unusable = s.peers.unusable := by
  obtain ⟨timer, ticks, own, unusable⟩ := departs_peers (departing (agedState s)) (agedState s)
  rw [peersTick_eq, timer, ticks, own, unusable, agedState_eq]
  exact ⟨rfl, rfl, rfl, rfl⟩

theorem peersTick_record (s : State) (j : Station) : (peersTick s).peers.records.get j =
    if departsNext s j = true then .cleared else (s.peers.records.get j).aged := by
  rw [peersTick_eq, departs_record, agedState_record]
  simp only [departing_aged]

/-- The record of a station at a round tick (R37, R38). -/
theorem peersTick_ages (s : State) (j : Station) : let r := s.peers.records.get j
    let u := (peersTick s).peers.records.get j
    (r.presence = .absent → u = r) ∧
    (r.presence ≠ .absent → r.age = 0 → u = { r with age := 1 }) ∧
    (r.presence ≠ .absent → r.age = 1 → u = { r with age := 2, presence := .stale }) ∧
    (r.presence ≠ .absent → 2 ≤ r.age → u = { presence := .absent, age := 0, fields := none }) := by
  intro r u
  have hu : u = if departsNext s j = true then .cleared else r.aged := peersTick_record s j
  have hnext : departsNext s j = true ↔ r.presence ≠ .absent ∧ 2 ≤ r.age := decide_eq_true_iff
  have hheld : r.presence ≠ .absent → r.aged = { r with age := r.age + 1, presence := if 2 ≤ r.age + 1 then .stale else r.presence } :=
    fun h => if_pos (decide_eq_true h)
  refine ⟨fun h => ?_, fun h h0 => ?_, fun h h1 => ?_, fun h h2 => ?_⟩
  · rw [hu, if_neg (fun hn => (hnext.mp hn).1 h)]
    exact if_neg (by simp [PeerRecord.held, h])
  · rw [hu, if_neg (fun hn => absurd (hnext.mp hn).2 (by omega)), hheld h, h0]
    rfl
  · rw [hu, if_neg (fun hn => absurd (hnext.mp hn).2 (by omega)), hheld h, h1]
    rfl
  · rw [hu, if_pos (hnext.mpr ⟨h, h2⟩)]
    rfl

/-! ### The queue copy at a round tick (R118, R119, R120, R129) -/

theorem depart_queue (j : Station) (s : State) : (depart j s).queue = s.queue.depart s.peers.ticks j := by
  simp [depart, formSource]

/-- A copy in REBUILD loses the entries of the departed. -/
theorem departs_queue_rebuild (l : List Station) {s : State} (h : s.queue.state = .rebuild) :
    (l.foldl (fun t j => depart j t) s).queue = s.queue.without l := by
  induction l generalizing s with
  | nil => simp [Queue.without]
  | cons j l ih =>
    have hq : (depart j s).queue = s.queue.drop j := by rw [depart_queue, Queue.depart, if_pos h]
    rw [List.foldl_cons, ih (by rw [hq]; exact h), hq, without_cons]

/-- In the other states their entries become SHADOW. -/
theorem departs_queue_shadow (l : List Station) {s : State} (h : s.queue.state ≠ .rebuild) :
    (l.foldl (fun t j => depart j t) s).queue = { s.queue with
      entries := s.queue.entries.map (fun e => if e.station ∈ l then { e with shadow := some s.peers.ticks } else e) } := by
  induction l generalizing s with
  | nil => simp
  | cons j l ih =>
    have hq : (depart j s).queue = { s.queue with entries := s.queue.entries.map (fun x =>
        if x.station = j then { x with shadow := some s.peers.ticks } else x) } := by
      rw [depart_queue, Queue.depart, if_neg h]
    have hticks : (depart j s).peers.ticks = s.peers.ticks := by rw [depart_peers]
    rw [List.foldl_cons, ih (by rw [hq]; exact h), hq, hticks]
    simp only [List.map_map]
    congr 2
    funext e
    by_cases hj : e.station = j <;> by_cases hl : e.station ∈ l <;> simp [hj, hl]

/-- An entry is kept at a tick unless it is SHADOW since an earlier one. -/
theorem shadow_kept (e : Entry) (ticks : Nat) : (!e.shadowBefore (ticks + 1)) = match e.shadow with
    | none => true
    | some tick => decide (ticks < tick) := by
  unfold Entry.shadowBefore
  cases e.shadow <;> simp [← decide_not]

/-- The entries that the countdown finds. -/
theorem peersTick_queue (s : State) :
    (peersTick s).queue.dropShadows (peersTick s).peers.ticks = { s.queue with entries := entriesAtTick s } := by
  have haged : (agedState s).queue = s.queue ∧ (agedState s).peers.ticks = s.peers.ticks + 1 := by
    rw [agedState_eq]
    exact ⟨rfl, rfl⟩
  obtain ⟨hqueue, hticks⟩ := haged
  rw [(peersTick_peers s).2.1, Queue.dropShadows, peersTick_eq]
  unfold entriesAtTick
  by_cases h : s.queue.state = .rebuild
  · have hleft : ∀ e : Entry, decide (e.station ∉ departing (agedState s)) = !departsNext s e.station := fun e => by
      simp only [decide_not, departing_aged, Bool.decide_eq_true]
    rw [departs_queue_rebuild _ (by rw [hqueue]; exact h), hqueue, if_pos h]
    simp only [Queue.without, hleft]
    exact congrArg (fun l => { s.queue with entries := l }) (List.filter_congr fun e _ => shadow_kept e s.peers.ticks)
  · rw [departs_queue_shadow _ (by rw [hqueue]; exact h), hqueue, hticks, if_neg h]
    simp only [departing_aged]
    exact congrArg (fun l => { s.queue with entries := l }) (List.filter_congr fun e _ => shadow_kept e s.peers.ticks)

/-- The running countdown at a round tick (R118, R120). -/
theorem countDown_counted (q : Queue) : countedDown q q.countDown := by
  refine ⟨fun h => ?_, fun h h2 => ?_, fun h h1 => ?_, fun h h0 => ?_, fun h h1 => ?_, fun h h2 => ?_⟩ <;>
    unfold Queue.countDown <;> rw [h] <;> dsimp only
  · exact if_neg (by omega)
  · exact if_pos h1
  · exact if_pos h0
  · rw [if_neg (by omega), if_pos h1]
    exact endRebuild_ended q
  · rw [if_neg (by omega), if_neg (by omega)]

end Sys2Proof.Machine
end

section
/-! SUPPORT. A round tick in the stack share, the join unit and the time base: the statement O22. -/

namespace Sys2Proof.Machine

-- One proof after the other, so that the check of the whole text stays within its limit of threads.
set_option Elab.async false

/-! ### The tick block by block (log 3) -/

/-- The state in which the join unit takes the tick. -/
def tickedState (s : State) : State := stackTick (queueTick (peersTick s).peers.ticks (peersTick s))

theorem exec_roundTick {s : State} (hp : s.power = .running) (ht : s.peers.roundTimer.isSome = true) :
    exec .roundTick s = .next (settle (joinTick (tickedState s))) := by
  show live s takeRoundTick = _
  rw [live_running hp, takeRoundTick, if_pos ht]
  rfl

theorem stackTick_frame (s : State) : (stackTick s).line = s.line ∧ (stackTick s).join = s.join ∧
    (stackTick s).filters = s.filters ∧ (stackTick s).mode = s.mode ∧ (stackTick s).nv = s.nv ∧
    (stackTick s).sensors = s.sensors ∧ (stackTick s).panel = s.panel ∧ (stackTick s).out = s.out ∧
    (stackTick s).peers = s.peers ∧ (stackTick s).queue = s.queue ∧ (stackTick s).clock = s.clock := by
  simp only [stackTick, evaluate_line, evaluate_join, evaluate_filters, evaluate_mode, evaluate_nv, evaluate_sensors,
    evaluate_panel, evaluate_out, evaluate_peers, evaluate_queue, evaluate_clock, and_self]

theorem tickedState_frame (s : State) : (tickedState s).line = s.line ∧ (tickedState s).join = s.join ∧
    (tickedState s).filters = s.filters ∧ (tickedState s).mode = s.mode ∧ (tickedState s).nv = s.nv ∧
    (tickedState s).sensors = s.sensors ∧ (tickedState s).panel = s.panel ∧ (tickedState s).out = (agedState s).out ∧
    (tickedState s).peers = (peersTick s).peers ∧ (tickedState s).clock = (peersTick s).clock := by
  obtain ⟨line, join, filters, mode, nv, sensors, panel, out, peers, queue, clock⟩ :=
    stackTick_frame (queueTick (peersTick s).peers.ticks (peersTick s))
  obtain ⟨pline, pjoin, pfilters, pmode, pnv, psensors, ppanel, pout⟩ := peersTick_frame s
  exact ⟨line.trans pline, join.trans pjoin, filters.trans pfilters, mode.trans pmode, nv.trans pnv, sensors.trans psensors,
    panel.trans ppanel, out.trans pout, peers, clock⟩

theorem tickedState_queue (s : State) :
    (tickedState s).queue = Queue.countDown { s.queue with entries := entriesAtTick s } := by
  obtain ⟨_, _, _, _, _, _, _, _, _, queue, _⟩ := stackTick_frame (queueTick (peersTick s).peers.ticks (peersTick s))
  rw [tickedState, queue, ← peersTick_queue]
  rfl

/-! ### The join unit (R46, R47, R55) -/

theorem joinTick_straps {s : State} (h : s.join.membership = .straps) : joinTick s = s := by rw [joinTick, h]

theorem joinTick_listens {s : State} (h : s.join.membership = .listen) (h2 : s.join.listenTicks < 2) :
    joinTick s = { s with join := { s.join with listenTicks := s.join.listenTicks + 1 } } := by
  rw [joinTick, h]
  exact if_neg (by omega)

theorem joinTick_third {s : State} (h : s.join.membership = .listen) (h2 : 2 ≤ s.join.listenTicks) :
    joinTick s = endListen s := by
  rw [joinTick, h]
  exact if_pos h2

theorem joinTick_joined {s : State} (h : s.join.membership = .joined) : joinTick s = evaluateSkew s := by rw [joinTick, h]

theorem evaluateSkew_nv (s : State) : (evaluateSkew s).nv = s.nv := (evaluateSkew_moves (m := {}) s).frame.record rfl

theorem applyThreshold_sensors (s : State) : (applyThreshold s).sensors = s.sensors := by
  unfold applyThreshold
  split
  · simp [enterDoubt, withdrawForDoubt, setCondition]
  · rfl

theorem endListen_sensors (s : State) : (endListen s).sensors = s.sensors := by
  have hj : (joinedNow s).sensors = s.sensors := by
    rw [joinedNow, requestStatus_eq]
    simp only [joinWith, raiseIf_sensors]
  obtain ⟨_, _, _, _, _, _, _, _, _, xsensors, _⟩ := (expireOverdue_only (thresholdTaken s)).frame
  rw [(listenForm_only s).sensors, evaluate_sensors, skewTaken, evaluateSkew_sensors, xsensors, thresholdTaken,
    applyThreshold_sensors, hj]

theorem joinTick_frame (s : State) : (joinTick s).peers = s.peers ∧ (joinTick s).mode = s.mode ∧ (joinTick s).nv = s.nv ∧
    (joinTick s).sensors = s.sensors ∧ (joinTick s).panel = s.panel ∧ (joinTick s).clock = s.clock := by
  cases h : s.join.membership
  · rw [joinTick_straps h]
    exact ⟨rfl, rfl, rfl, rfl, rfl, rfl⟩
  · by_cases h2 : 2 ≤ s.join.listenTicks
    · rw [joinTick_third h h2]
      obtain ⟨_, _, peers, _, _, clock, mode, panel⟩ := endListen_frame s
      exact ⟨peers, mode, endListen_nv s, endListen_sensors s, panel, clock⟩
    · rw [joinTick_listens h (by omega)]
      exact ⟨rfl, rfl, rfl, rfl, rfl, rfl⟩
  · rw [joinTick_joined h]
    obtain ⟨peers, _, clock, _, _, mode⟩ := evaluateSkew_rest s
    exact ⟨peers, mode, evaluateSkew_nv s, evaluateSkew_sensors s, evaluateSkew_panel s, clock⟩

/-- Short of the third tick of LISTEN the join unit leaves the queue copy. -/
theorem joinTick_queue {s : State} (h : ¬ (s.join.membership = .listen ∧ 2 ≤ s.join.listenTicks)) :
    (joinTick s).queue = s.queue := by
  cases hm : s.join.membership
  · rw [joinTick_straps hm]
  · have h2 : s.join.listenTicks < 2 := by
      by_contra hn
      exact h ⟨hm, by omega⟩
    rw [joinTick_listens hm h2]
  · rw [joinTick_joined hm, (evaluateSkew_rest s).2.1]

/-! ### Backoff (R86) -/

theorem depart_running (j : Station) {s : State} (h : s.stack.backoff ≠ 0) : (depart j s).stack.backoff = s.stack.backoff := by
  rw [depart_eq]
  exact evaluate_running (s := departed j s) h

theorem departs_running (l : List Station) {s : State} (h : s.stack.backoff ≠ 0) :
    (l.foldl (fun t j => depart j t) s).stack.backoff = s.stack.backoff := by
  induction l generalizing s with
  | nil => rfl
  | cons j l ih => rw [List.foldl_cons, ih (by rw [depart_running j h]; exact h), depart_running j h]

theorem agedState_stack (s : State) : (agedState s).stack = s.stack := by rw [agedState_eq]

theorem tickedState_running {s : State} (h : 2 ≤ s.stack.backoff) : (tickedState s).stack.backoff = s.stack.backoff - 1 := by
  have hp : (peersTick s).stack.backoff = s.stack.backoff := by
    rw [peersTick_eq, departs_running _ (by rw [agedState_stack]; omega), agedState_stack]
  have hrun := evaluate_running (s := { queueTick (peersTick s).peers.ticks (peersTick s) with
    stack := { (peersTick s).stack with backoff := (peersTick s).stack.backoff - 1 } })
    (show (peersTick s).stack.backoff - 1 ≠ 0 by omega)
  exact hrun.trans (by rw [hp])

theorem applyThreshold_running {s : State} (h : s.stack.backoff ≠ 0) : (applyThreshold s).stack.backoff = s.stack.backoff := by
  unfold applyThreshold
  split
  · exact evaluate_running (s := raise .lineDoubt (withdrawForDoubt (setCondition .doubt s))) h
  · rfl

theorem endListen_running {s : State} (h : s.stack.backoff ≠ 0) : (endListen s).stack.backoff = s.stack.backoff := by
  have hj : (joinedNow s).stack = s.stack := by
    rw [joinedNow, requestStatus_eq]
    simp only [joinWith, raiseIf_stack]
  have ht : (thresholdTaken s).stack.backoff = s.stack.backoff := by
    rw [thresholdTaken, applyThreshold_running (by rw [hj]; exact h), hj]
  obtain ⟨_, _, _, _, _, _, _, _, _, _, xstack⟩ := (expireOverdue_only (thresholdTaken s)).frame
  have hk : (skewTaken s).stack.backoff = s.stack.backoff := by
    rw [skewTaken, evaluateSkew_running (by rw [xstack, ht]; exact h), xstack, ht]
  obtain ⟨_, _, _, _, _, _, _, _, _, fstack, _⟩ := (listenForm_only s).frame
  rw [fstack, evaluate_running (by rw [hk]; exact h), hk]

theorem joinTick_running {s : State} (h : s.stack.backoff ≠ 0) : (joinTick s).stack.backoff = s.stack.backoff := by
  cases hm : s.join.membership
  · rw [joinTick_straps hm]
  · by_cases h2 : 2 ≤ s.join.listenTicks
    · rw [joinTick_third hm h2, endListen_running h]
    · rw [joinTick_listens hm (by omega)]
  · rw [joinTick_joined hm, evaluateSkew_running h]

/-! ### The time source (R167) -/

theorem depart_clock (j : Station) (s : State) : (depart j s).clock = { s.clock with source := sourceNow (depart j s) } :=
  (depart_rest j s).2.2.2.2.2

/-- Departures move of the clock the time source alone, and leave it formed. -/
theorem departs_clock (l : List Station) (s : State) : let u := l.foldl (fun t j => depart j t) s
    (l = [] → u.clock = s.clock) ∧ (l ≠ [] → u.clock = { s.clock with source := sourceNow u }) := by
  induction l generalizing s with
  | nil => exact ⟨fun _ => rfl, fun h => absurd rfl h⟩
  | cons j l ih =>
    refine ⟨fun h => (List.cons_ne_nil _ _ h).elim, fun _ => ?_⟩
    obtain ⟨hnil, hcons⟩ := ih (depart j s)
    rw [List.foldl_cons]
    by_cases hl : l = []
    · rw [hnil hl, depart_clock, hl]
      rfl
    · rw [hcons hl, depart_clock]

theorem departing_nil {s : State} : departing (agedState s) = [] ↔ ∀ j, departsNext s j = false := by
  simp only [List.eq_nil_iff_forall_not_mem, departing_aged, Bool.not_eq_true]

theorem peersTick_clock (s : State) : ((∃ j, departsNext s j = true) → (peersTick s).clock = { s.clock with source := sourceNow (peersTick s) }) ∧
    ((∀ j, departsNext s j = false) → peersTick s = agedState s) := by
  have hclock : (agedState s).clock = s.clock := by rw [agedState_eq]
  refine ⟨fun ⟨j, hj⟩ => ?_, fun h => ?_⟩
  · obtain ⟨_, hcons⟩ := departs_clock (departing (agedState s)) (agedState s)
    rw [peersTick_eq, hcons (fun hn => absurd (departing_nil.mp hn j) (by rw [hj]; decide)), hclock]
  · rw [peersTick_eq, departing_nil.mpr h]
    rfl

theorem peersTick_time (s : State) : (peersTick s).clock.time = s.clock.time := by
  obtain ⟨hdeparts, hnone⟩ := peersTick_clock s
  by_cases h : ∃ j, departsNext s j = true
  · rw [hdeparts h]
  · rw [hnone fun j => Bool.not_eq_true _ ▸ fun hj => h ⟨j, hj⟩, agedState_eq]

/-! ### The tick as an event -/

theorem skewNow_iff (s : State) : skewNow s = true ↔ ∃ (j : Station) (r : Report), (s.peers.records.get j).presence ≠ .absent ∧
    (s.peers.records.get j).fields = some r ∧ r.termsVersion ≠ s.join.terms.version := by
  simp only [skewNow, heldReports_eq_filterMap, List.any_eq_true, List.mem_filterMap, List.mem_finRange, true_and,
    decide_eq_true_eq]
  constructor
  · rintro ⟨r, ⟨j, hj⟩, hv⟩
    by_cases h : (s.peers.records.get j).presence ≠ .absent
    · exact ⟨j, r, h, by rwa [if_pos h] at hj, hv⟩
    · rw [if_neg h] at hj
      cases hj
  · rintro ⟨j, r, h, hf, hv⟩
    exact ⟨r, ⟨j, by rw [if_pos h, hf]⟩, hv⟩

/-- What the join unit is left with at a tick. -/
theorem joinTick_joins {s : State} :
    (s.join.membership = .listen → s.join.listenTicks < 2 →
      (joinTick s).join = { s.join with listenTicks := s.join.listenTicks + 1 }) ∧
    (s.join.membership = .joined → (joinTick s).join = { s.join with skew := skewNow s } ∧
      (s.join.skew = false → skewNow s = true → raised .termsSkew (joinTick s) = true)) ∧
    (s.join.membership = .straps → (joinTick s).join = s.join) := by
  refine ⟨fun h h2 => by rw [joinTick_listens h h2], fun h => ?_, fun h => by rw [joinTick_straps h]⟩
  rw [joinTick_joined h, evaluateSkew_join, if_pos h]
  exact ⟨rfl, fun h1 h2 => evaluateSkew_raised h h1 h2⟩

/-- The skew at the end of the tick is the one that the join unit found. -/
theorem roundTick_skewNow {s : State} (h : s.join.membership = .joined) :
    skewNow (settle (joinTick s)) = skewNow s := by
  refine skewNow_congr ((settle_peers _).trans (joinTick_frame s).1) ?_
  rw [settle_join, (joinTick_joins.2.1 h).1]

theorem roundTick_record {s : State} (j : Station) (hp : s.power = .running) (ht : s.peers.roundTimer.isSome = true) :
    let r := s.peers.records.get j
    ∃ t, exec .roundTick s = .next t ∧ t.peers.roundTimer = some (seconds 4) ∧ t.peers.ticks = s.peers.ticks + 1 ∧
      t.peers.ownReport = s.peers.ownReport ∧ t.peers.unusable = s.peers.unusable ∧
      (r.presence = .absent → t.peers.records.get j = r) ∧
      (r.presence ≠ .absent → r.age = 0 → t.peers.records.get j = { r with age := 1 }) ∧
      (r.presence ≠ .absent → r.age = 1 → t.peers.records.get j = { r with age := 2, presence := .stale }) ∧
      (r.presence ≠ .absent → 2 ≤ r.age → t.peers.records.get j = { presence := .absent, age := 0, fields := none }) ∧
      (s.join.membership = .joined → s.line.condition = .clear ∨ s.line.condition = .doubt → t.out.status = true) ∧
      (s.join.membership = .joined → t.join.skew = skewNow t) ∧
      t.mode = s.mode ∧ t.nv = s.nv ∧ t.sensors = s.sensors ∧ t.panel = s.panel ∧ t.clock.time = s.clock.time := by
  intro r
  obtain ⟨kline, kjoin, _, kmode, knv, ksensors, kpanel, kout, kpeers, kclock⟩ := tickedState_frame s
  obtain ⟨jpeers, jmode, jnv, jsensors, jpanel, jclock⟩ := joinTick_frame (tickedState s)
  have hpeers : (settle (joinTick (tickedState s))).peers = (peersTick s).peers := by rw [settle_peers, jpeers, kpeers]
  obtain ⟨timer, ticks, own, unusable⟩ := peersTick_peers s
  obtain ⟨a0, a1, a2, a3⟩ := peersTick_ages s j
  refine ⟨_, exec_roundTick hp ht, ?_⟩
  rw [hpeers]
  refine ⟨timer, ticks, own, unusable, a0, a1, a2, a3, fun hj hc => ?_, fun hj => ?_, ?_, ?_, ?_, ?_, ?_⟩
  · rw [settle_out_status, joinTick_joined (by rw [kjoin]; exact hj), evaluateSkew_out, kout, agedState_eq]
    simp only [hj, permitted_status hj hc, decide_true, Bool.and_self, Bool.true_or]
  · rw [roundTick_skewNow (by rw [kjoin]; exact hj), settle_join, (joinTick_joins.2.1 (by rw [kjoin]; exact hj)).1]
  · rw [settle_mode, jmode, kmode]
  · rw [settle_nv, jnv, knv]
  · rw [settle_sensors, jsensors, ksensors]
  · rw [settle_panel, jpanel, kpanel]
  · rw [settle_clock, jclock, kclock, peersTick_time]

/-! ### What the tick brings in the blocks (log 3) -/

theorem roundTick_capFormed (s : State) : capFormed (settle (joinTick (tickedState s))) :=
  settle_capFormed ((joinTick_moves (m := {}) _).cap (evaluate_capFormed _))

theorem tickedState_ruled {s : State} (h : queueRuled s) : queueRuled (tickedState s) := by
  have hmoves : Moves {} s (tickedState s) :=
    (peersTick_moves s).trans ((queueTick_moves _ _).trans (stackTick_moves _))
  exact hmoves.entries h

/-- The state that the tick's evaluation finds when no station departs. -/
def lowered (s : State) : State := { queueTick (agedState s).peers.ticks (agedState s) with
  stack := { (agedState s).stack with backoff := (agedState s).stack.backoff - 1 } }

theorem tickedState_quiet {s : State} (h : ∀ j, departsNext s j = false) : tickedState s = evaluate (lowered s) := by
  rw [tickedState, (peersTick_clock s).2 h]
  rfl

theorem lowered_frame (s : State) : (lowered s).join = s.join ∧ (lowered s).line = s.line ∧ (lowered s).mode = s.mode ∧
    (lowered s).filters = s.filters ∧ (lowered s).humid = s.humid ∧
    (lowered s).stack = { s.stack with backoff := s.stack.backoff - 1 } := by
  rw [lowered, agedState_eq]
  exact ⟨rfl, rfl, rfl, rfl, rfl, rfl⟩

/-- Without departures the tick's evaluation cuts, or leaves the lowered count. -/
theorem roundTick_quiet {s : State} {x : Straps} (h : ∀ j, departsNext s j = false) (hx : s.join.straps = some x)
    (hj : s.join.membership = .joined) {t : State} (ht : settle (joinTick (tickedState s)) = t) :
    (overLimitIn s t → raised .stackCut t = true ∧
      t.stack.backoff = (if s.stack.backoff ≤ 1 then x.number.val + 1 else s.stack.backoff - 1)) ∧
    (¬ overLimitIn s t → t.join.skew = s.join.skew → demandOf (classRow x.fanClass) s = s.stack.demand →
      t.stack.demand = s.stack.demand → t.stack.backoff = s.stack.backoff - 1) := by
  obtain ⟨ljoin, _, lmode, lfilters, lhumid, lstack⟩ := lowered_frame s
  have hjoin : (evaluate (lowered s)).join = s.join := by rw [evaluate_join, ljoin]
  have hx' : (lowered s).join.straps = some x := by rw [ljoin]; exact hx
  rw [tickedState_quiet h, joinTick_joined (by rw [hjoin]; exact hj)] at ht
  have hterms : (settle (evaluateSkew (evaluate (lowered s)))).join.terms = (evaluate (lowered s)).join.terms := by
    rw [settle_join, evaluateSkew_join, hjoin, if_pos hj]
  have hpeers : (settle (evaluateSkew (evaluate (lowered s)))).peers = (evaluate (lowered s)).peers := by
    rw [settle_peers, (evaluateSkew_rest _).1]
  have hover : overLimitIn s (settle (evaluateSkew (evaluate (lowered s)))) ↔ overLimit (lowered s) = true := by
    rw [← overLimitIn_iff (s := s) (t := evaluate (lowered s)) (by rw [lstack]) (evaluate_join _) (evaluate_peers _)]
    simp only [overLimitIn, heldReports, presenceCount, hterms, hpeers]
  subst ht
  refine ⟨fun ho => ?_, fun ho hskew hd hd' => ?_⟩
  · obtain ⟨hraised, hbackoff⟩ := evaluate_of_over (hover.mp ho) hx'
    have hne : (evaluate (lowered s)).stack.backoff ≠ 0 := by rw [hbackoff]; exact begun_ne_zero
    refine ⟨settle_keeps _ _ (evaluateSkew_keeps _ hraised), ?_⟩
    rw [settle_running (by rw [evaluateSkew_running hne]; exact hne), evaluateSkew_running hne, hbackoff, lstack]
    simp only [Nat.sub_eq_zero_iff_le]
  · have hnone : overLimit (lowered s) = false := by rw [← Bool.not_eq_true, ← hover]; exact ho
    have hsame : skewNow (evaluate (lowered s)) = (evaluate (lowered s)).join.skew := by
      rw [settle_join, evaluateSkew_join, hjoin, if_pos hj] at hskew
      rw [hjoin]
      exact hskew
    rw [evaluateSkew_stays (.inr hsame)] at hd' ⊢
    have hdemand : demandOf (classRow x.fanClass) (lowered s) = (lowered s).stack.demand := by
      rw [demandOf_congr (s := s) _ lmode (by rw [lfilters]) (by rw [lfilters]) (by rw [lhumid]), hd, lstack]
    rw [settle_evaluated_same hx' hdemand hnone (by rw [hjoin]; exact hx) rfl (by rw [hd', lstack]), lstack]

theorem joinTick_sameStraps (s : State) : (joinTick s).join.straps = s.join.straps := by
  cases hm : s.join.membership
  · rw [joinTick_straps hm]
  · by_cases h2 : 2 ≤ s.join.listenTicks
    · rw [joinTick_third hm h2, endListen_join]
    · rw [joinTick_listens hm (by omega)]
  · rw [joinTick_joined hm, evaluateSkew_join, if_pos hm]

theorem tickTaken_holds : tickTaken := by
  intro s hp ht third
  obtain ⟨kline, kjoin, kfilters, _, _, _, _, kout, kpeers, kclock⟩ := tickedState_frame s
  obtain ⟨jpeers, _, _, _, _, jclock⟩ := joinTick_frame (tickedState s)
  obtain ⟨jlisten, jjoined, jstraps⟩ := joinTick_joins (s := tickedState s)
  rw [kjoin] at jlisten jjoined jstraps
  refine ⟨_, _, exec_roundTick hp ht, countDown_counted _, fun h => ?_, fun h hr => ?_, fun h => ?_, fun h h2 => ?_, fun h => ?_,
    fun h => ?_, roundTick_capFormed s, fun h => ?_, fun h => ?_, fun h => ⟨?_, fun x hx hj => roundTick_quiet h hx hj rfl⟩⟩
  · rw [settle_queue, joinTick_queue (by rw [kjoin]; exact h), tickedState_queue]
  · rw [settle_queue, joinTick_third (by rw [kjoin]; exact h.1) (by rw [kjoin]; exact h.2), endListen_queue (tickedState_ruled hr),
      settle_join, tickedState_queue]
  · rw [joinTick_third (by rw [kjoin]; exact h.1) (by rw [kjoin]; exact h.2)]
    refine listenEnded_congr (listenEnded_settle (tickedState s)) kline ?_ kjoin kfilters
    rw [kout, agedState_eq, h.1]
    rfl
  · rw [settle_join, jlisten h h2]
  · obtain ⟨hjoin, hraised⟩ := jjoined h
    rw [roundTick_skewNow (by rw [kjoin]; exact h), settle_join]
    exact ⟨hjoin, fun h1 h2 => settle_keeps _ _ (hraised h1 h2)⟩
  · rw [settle_join, jstraps h]
  · have hrun := tickedState_running h
    rw [settle_running (by rw [joinTick_running (by rw [hrun]; omega), hrun]; omega), joinTick_running (by rw [hrun]; omega), hrun]
  · have hsource : sourceNow (settle (joinTick (tickedState s))) = sourceNow (peersTick s) := by
      refine sourceNow_congr ?_ (by rw [settle_peers, jpeers, kpeers])
      rw [settle_join, joinTick_sameStraps, kjoin, (peersTick_frame s).2.1]
    rw [settle_clock, jclock, kclock, hsource]
    exact (peersTick_clock s).1 h
  · rw [settle_clock, jclock, kclock, (peersTick_clock s).2 h, agedState_eq]

/-- Settles O22. -/
theorem roundTickAgesTheRecords : Obligations.RoundTickAgesTheRecords :=
  ⟨fun _ j hp ht => roundTick_record j hp ht, skewNow_iff, tickTaken_holds⟩

end Sys2Proof.Machine
end

section
/-! SUPPORT. The slot of the pending frame and what is sent in it: the statement O10. -/

namespace Sys2Proof.Machine

-- One proof after the other, so that the check of the whole text stays within its limit of threads.
set_option Elab.async false

/-! ### Slots (R9, R11) -/

theorem slotOf_eq (own last : Station) (c : Nat) :
    (slotOf own last c : Int) = c * 16 + ((own.val : Int) - (last.val : Int) - 1) % 16 := by
  have := own.isLt
  have := last.isLt
  unfold slotOf
  omega

theorem slotOf_started (own : Station) (c : Nat) : slotOf own 15 c = c * 16 + own.val := by
  have := own.isLt
  show c * 16 + (own.val + 31 - 15) % 16 = _
  omega

theorem ownSlot_some {s : State} {own : Station} {w : Wanted} (h : ownNumber s = some own) (hw : nextWanted s = some w) :
    ownSlot s = some (slotOf own s.line.lastSender w.sendingClass) := by
  rw [ownSlot, h, hw]

/-! ### The frame that goes next (R11, R21) -/

section
variable {s : State}

theorem permitted_joined (hj : s.join.membership = .joined) (hc : s.line.condition = .clear ∨ s.line.condition = .doubt) {w : Wanted}
    (hw : w ≠ .take ∧ w ≠ .test) : permitted s w = true := by
  rcases hc with hc | hc <;> simp [permitted, hj, hc, hw]

theorem permitted_clear (hj : s.join.membership = .joined) (hc : s.line.condition = .clear) (w : Wanted) : permitted s w = true := by
  simp [permitted, hj, hc]

theorem permitted_doubt (hj : s.join.membership = .joined) (hc : s.line.condition = .doubt) :
    permitted s .take = false ∧ permitted s .test = false := by
  simp [permitted, hj, hc]

theorem permitted_listen (hj : s.join.membership = .listen) (hc : s.line.condition = .clear ∨ s.line.condition = .doubt) (w : Wanted) :
    permitted s w = decide (w = .query) := by
  rcases hc with hc | hc <;> simp [permitted, hj, hc]

theorem nextWanted_give (h : s.out.give = true) (hp : permitted s .give = true) : nextWanted s = some .give :=
  if_pos (by rw [h, hp]; rfl)

theorem nextWanted_take (hg : s.out.give = false) (h : s.out.take = true) (hp : permitted s .take = true) :
    nextWanted s = some .take := by
  rw [nextWanted, hg, h, hp]
  rfl

/-- With neither GIVE nor TAKE to send. -/
theorem nextWanted_later (hg : s.out.give = false) (ht : s.out.take = false ∨ permitted s .take = false) : nextWanted s =
    if s.out.status && permitted s .status then some .status
    else match termsWanted s with
      | some w => some w
      | none => if s.out.test && permitted s .test then some .test else none := by
  have htake : (s.out.take && permitted s .take) = false := by rcases ht with h | h <;> simp [h]
  rw [nextWanted, hg, htake]
  rfl

/-! ### The slot taken (R11, R12, R133, R134) -/

theorem exec_slot_sent {own : Station} {w : Wanted} {c : Content} (hp : s.power = .running) (hn : ownNumber s = some own)
    (hi : s.line.idle = true) (hs : s.line.sending = none) (hw : nextWanted s = some w) (hc : buildContent s w = some c) :
    exec .slotBegins s = .next (beginFrame own w c s) := by
  show live s slotStarts = _
  rw [live_running hp, slotStarts, hn, hw]
  dsimp only
  rw [if_pos (by rw [hi, hs]; rfl), hc]

theorem exec_slot_declined {own : Station} {w : Wanted} {u : State} (hp : s.power = .running) (hn : ownNumber s = some own)
    (hi : s.line.idle = true) (hs : s.line.sending = none) (hw : nextWanted s = some w) (hc : buildContent s w = none)
    (hu : decline w { s with line := { s.line with slotTime := some (2 * slotOf own s.line.lastSender w.sendingClass) } } = u) :
    exec .slotBegins s = .next (settle u) := by
  show live s slotStarts = _
  rw [live_running hp, slotStarts, hn, hw]
  dsimp only
  rw [if_pos (by rw [hi, hs]; rfl), hc, ownSlot_some hn hw, ← hu]
  rfl

theorem exec_slot_nothing (hp : s.power = .running) (hw : nextWanted s = none) : exec .slotBegins s = .next s := by
  show live s slotStarts = _
  rw [live_running hp, slotStarts, hw]
  cases ownNumber s <;> rfl

theorem build_give_leaving {v : Byte} (h : s.own.leaving = some v) : buildContent s .give = some (.give v) := by
  rw [buildContent, h]

theorem build_give_entry {e : Entry} (h : s.own.leaving = none) (he : ownEntry s = some e) :
    buildContent s .give = some (.give e.serial) := by
  rw [buildContent, h, he]

theorem build_give_none (h : s.own.leaving = none) (he : ownEntry s = none) : buildContent s .give = none := by
  rw [buildContent, h, he]

theorem build_take (he : ownEntry s = none) (hq : s.queue.state ≠ .rebuild) : buildContent s .take = some (.take s.queue.n) := by
  rw [buildContent, he]
  exact if_neg (by simp [hq])

theorem build_take_none (h : (ownEntry s).isSome = true ∨ s.queue.state = .rebuild) : buildContent s .take = none := by
  refine if_pos ?_
  rcases h with h | h <;> simp [h]

end

/-- A station JOINED on a line that is CLEAR or in DOUBT (R11, R133, R134). -/
theorem slot_joined {s : State} {own : Station} (hp : s.power = .running) (hn : ownNumber s = some own) (hi : s.line.idle = true)
    (hs : s.line.sending = none) (hj : s.join.membership = .joined)
    (hc : s.line.condition = .clear ∨ s.line.condition = .doubt) :
    let sent (w : Wanted) (c : Content) : Result := .next (beginFrame own w c s)
    (∀ v, s.out.give = true → s.own.leaving = some v → exec .slotBegins s = sent .give (.give v)) ∧
    (∀ e, s.out.give = true → s.own.leaving = none → ownEntry s = some e → exec .slotBegins s = sent .give (.give e.serial)) ∧
    (s.out.give = false → s.out.take = false ∨ s.line.condition = .doubt → s.out.status = true →
      exec .slotBegins s = sent .status (.status (currentReport s))) ∧
    (s.out.give = false → s.out.take = false ∨ s.line.condition = .doubt → s.out.status = false → s.out.terms = some .set →
      exec .slotBegins s = sent .set (.termsSet s.join.terms)) := by
  have hgive := permitted_joined hj hc (w := .give) (by decide)
  have hset := permitted_joined hj hc (w := .set) (by decide)
  have hstatus := permitted_joined hj hc (w := .status) (by decide)
  have htake : s.out.take = false ∨ s.line.condition = .doubt → s.out.take = false ∨ permitted s .take = false :=
    Or.imp_right fun h => (permitted_doubt hj h).1
  refine ⟨fun v h hl => ?_, fun e h hl he => ?_, fun hg ht h => ?_, fun hg ht hst h => ?_⟩
  · exact exec_slot_sent hp hn hi hs (nextWanted_give h hgive) (build_give_leaving hl)
  · exact exec_slot_sent hp hn hi hs (nextWanted_give h hgive) (build_give_entry hl he)
  · exact exec_slot_sent hp hn hi hs (by rw [nextWanted_later hg (htake ht), h, hstatus]; rfl) rfl
  · refine exec_slot_sent hp hn hi hs ?_ rfl
    rw [nextWanted_later hg (htake ht), hst, termsWanted, h, hset]
    rfl

/-- A station JOINED on a CLEAR line (R11, R12, R23). -/
theorem slot_clear {s : State} {own : Station} (hp : s.power = .running) (hn : ownNumber s = some own) (hi : s.line.idle = true)
    (hs : s.line.sending = none) (hj : s.join.membership = .joined) (hc : s.line.condition = .clear) :
    (s.out.give = false → s.out.take = true → ownEntry s = none → s.queue.state ≠ .rebuild →
      exec .slotBegins s = .next (beginFrame own .take (.take s.queue.n) s)) ∧
    (s.out.give = false → s.out.take = true → (ownEntry s).isSome = true ∨ s.queue.state = .rebuild →
      exec .slotBegins s = .next (settle { s with
        out := { s.out with take := false }, own := { s.own with outstanding := false }
        line := { s.line with slotTime := some (2 * slotOf own s.line.lastSender 1) } })) ∧
    (∀ r, s.out.give = false → s.out.take = false → s.out.status = false → s.out.terms = none → s.out.test = true →
      s.line.run = some r → exec .slotBegins s = .next (beginFrame own .test (.test r.seed) s)) := by
  have htake := permitted_clear hj hc .take
  have htest := permitted_clear hj hc .test
  refine ⟨fun hg h he hq => ?_, fun hg h hn' => ?_, fun r hg ht hst hterms h hr => ?_⟩
  · exact exec_slot_sent hp hn hi hs (nextWanted_take hg h htake) (build_take he hq)
  · exact exec_slot_declined hp hn hi hs (nextWanted_take hg h htake) (build_take_none hn') rfl
  · refine exec_slot_sent hp hn hi hs ?_ (by rw [buildContent, hr]; rfl)
    rw [nextWanted_later hg (.inl ht), hst, termsWanted, hterms, h, htest]
    rfl

/-- In DOUBT with nothing but TAKE and TEST pending, and in LISTEN without a query, nothing is sent (R20, R21). -/
theorem nextWanted_doubt {s : State} (hj : s.join.membership = .joined) (hc : s.line.condition = .doubt) (hg : s.out.give = false)
    (hst : s.out.status = false) (ht : s.out.terms = none) : nextWanted s = none := by
  obtain ⟨htake, htest⟩ := permitted_doubt hj hc
  rw [nextWanted_later hg (.inr htake), hst, termsWanted, ht, htest, Bool.and_false]
  rfl

theorem nextWanted_listen {s : State} (hj : s.join.membership = .listen)
    (hc : s.line.condition = .clear ∨ s.line.condition = .doubt) :
    nextWanted s = if s.out.terms = some .query then some .query else none := by
  have hp := permitted_listen hj hc
  have hterms : termsWanted s = if s.out.terms = some .query then some .query else none := by
    unfold termsWanted
    rcases s.out.terms with _ | _ | _ <;> simp [hp]
  rw [nextWanted, hterms]
  simp only [hp, reduceCtorEq, decide_false, Bool.and_false, Bool.false_eq_true, if_false]
  by_cases h : s.out.terms = some .query
  · rw [if_pos h]
  · rw [if_neg h]

/-! ### What a STATUS reports (R27 to R32) -/

theorem ownEntry_isSome (s : State) : (ownEntry s).isSome = true ↔ ∃ e ∈ s.queue.entries, ownNumber s = some e.station := by
  simp [ownEntry, isOwn]

theorem needsCare_filterDue (s : State) : filterDue s = true ↔
    ∃ d : Side, (filterOf s d).state = .due ∨ (filterOf s d).state = .overdue ∨ (filterOf s d).state = .unknown := by
  simp only [filterDue, Bool.or_eq_true, needsCare_iff]
  exact ⟨fun h => h.elim (fun h => ⟨.supply, h⟩) (fun h => ⟨.extract, h⟩),
    fun ⟨d, h⟩ => by cases d; exacts [.inl h, .inr h]⟩

theorem reportsItself_holds (s : State) : reportsItself s := by
  refine ⟨rfl, rfl, rfl, rfl, decide_eq_true_iff, decide_eq_true_iff, rfl, needsCare_filterDue s, rfl, rfl, rfl,
    ownEntry_isSome s, fun e own hn he => ?_, fun h => ?_, rfl, rfl, rfl⟩
  · have hown : ownEntry s = some e := (ownEntry_eq hn).trans he
    have hstation : e.station = own := by simpa using List.find?_some he
    simp only [currentReport, hown, hstation, and_self]
  · have hnone : ownEntry s = none := by
      have h' : (ownEntry s).isSome = false := h
      simpa using h'
    simp only [currentReport, hnone, and_self]

/-! ### The slots in elapsed time (R9) -/

theorem bitsToSlot_some {s : State} {own : Station} {w : Wanted} {time : Nat} (hn : ownNumber s = some own)
    (hw : nextWanted s = some w) (hi : s.line.idle = true) (hs : s.line.sending = none) (ht : s.line.slotTime = some time)
    (hlt : time < 128) : ∃ d, bitsToSlot s = some d ∧ d < 128 ∧
      (time + d) % 128 = 2 * slotOf own s.line.lastSender w.sendingClass := by
  have hslot := slotOf_lt own s.line.lastSender (sendingClass_lt w)
  refine ⟨(2 * slotOf own s.line.lastSender w.sendingClass + 128 - time) % 128, ?_, Nat.mod_lt _ (by decide), by omega⟩
  rw [bitsToSlot, ht, ownSlot_some hn hw]
  exact if_pos (by rw [hi, hs]; rfl)

theorem bitsToSlot_none {s : State} (h : s.line.slotTime = none ∨ nextWanted s = none) : bitsToSlot s = none := by
  rcases h with h | h
  · rw [bitsToSlot, h]
  · have hslot : ownSlot s = none := by
      rw [ownSlot, h]
      cases ownNumber s <;> rfl
    rw [bitsToSlot, hslot]
    cases s.line.slotTime <;> rfl

/-- A tick in which the own slot does not come only counts. -/
theorem runLine_counts {s : State} (h : ∀ d, bitsToSlot s = some d → 75 ≤ d) : runLine s = advanceSlots 75 s := by
  show runSlots 6 75 s = _
  rw [runSlots]
  rcases hd : bitsToSlot s with _ | d
  · rfl
  · exact if_neg (Nat.not_lt.mpr (h d hd))

/-- With the count stopped no bit times pass. -/
theorem runSlots_stopped (n bits : Nat) {s : State} (h : s.line.slotTime = none) : runSlots n bits s = s := by
  have hline : { s.line with slotTime := s.line.slotTime.map (fun t => (t + bits) % cycleBits) } = s.line := by
    rw [h, Option.map_none, ← h]
  have hsame : advanceSlots bits s = s := by rw [advanceSlots, hline]
  cases n with
  | zero => exact hsame
  | succ n => rw [runSlots, bitsToSlot_none (.inl h)]; exact hsame

theorem bitsToSlot_idle {s : State} {d : Nat} (h : bitsToSlot s = some d) :
    s.line.idle = true ∧ s.line.sending = none ∧ ∃ own, ownNumber s = some own := by
  unfold bitsToSlot at h
  rcases ht : s.line.slotTime with _ | time
  · simp [ht] at h
  rcases ho : ownSlot s with _ | n
  · simp [ho] at h
  have hidle : (s.line.idle && s.line.sending.isNone) = true := by
    by_contra hn
    simp [ht, ho, hn] at h
  rw [Bool.and_eq_true, Option.isNone_iff_eq_none] at hidle
  refine ⟨hidle.1, hidle.2, ?_⟩
  rcases hown : ownNumber s with _ | own
  · simp [ownSlot, hown] at ho
  · exact ⟨own, rfl⟩

/-- What a frame is built from does not read the slot count. -/
theorem buildContent_advance (d : Nat) (s : State) (w : Wanted) : buildContent (advanceSlots d s) w = buildContent s w := by
  cases w <;> rfl

theorem runLine_sends {s : State} {d : Nat} {w : Wanted} {c : Content} (hp : s.power = .running) (hd : bitsToSlot s = some d)
    (h75 : d < 75) (hw : nextWanted s = some w) (hc : buildContent s w = some c) : exec .slotBegins s = .next (runLine s) := by
  obtain ⟨hi, hs, own, hn⟩ := bitsToSlot_idle hd
  have hstart : slotStarts (advanceSlots d s) = beginFrame own w c s := by
    have hw' : nextWanted (advanceSlots d s) = some w := hw
    have hn' : ownNumber (advanceSlots d s) = some own := hn
    rw [slotStarts, hn', hw']
    dsimp only
    rw [buildContent_advance, hc, if_pos (by show (s.line.idle && s.line.sending.isNone) = true; rw [hi, hs]; rfl)]
    rfl
  have hrun : runLine s = runSlots 5 (75 - d) (slotStarts (advanceSlots d s)) := by
    show runSlots 6 75 s = _
    rw [runSlots, hd]
    exact if_pos h75
  rw [exec_slot_sent hp hn hi hs hw hc, hrun, hstart, runSlots_stopped _ _ rfl]

/-- Settles O10. -/
theorem slotAndItsFrame : Obligations.SlotAndItsFrame := by
  refine ⟨⟨slotOf_eq, slotOf_started, fun s own w => ownSlot_some⟩, fun s own hp hn hi hs => ?_, reportsItself_holds,
    fun s own w time => bitsToSlot_some, fun s => bitsToSlot_none, fun s => runLine_counts, fun s d w c => runLine_sends,
    fun s => rfl⟩
  intro sent declined
  refine ⟨fun hj hc => ?_, fun hj hc => slot_clear hp hn hi hs hj hc,
    fun hj hc hg hst ht => exec_slot_nothing hp (nextWanted_doubt hj hc hg hst ht), fun hj hc => ⟨fun h => ?_, fun h => ?_⟩⟩
  · obtain ⟨hleaving, hentry, hstatus, hset⟩ := slot_joined hp hn hi hs hj hc
    refine ⟨hleaving, hentry, fun h hl he => ?_, hstatus, hset⟩
    exact exec_slot_declined hp hn hi hs (nextWanted_give h (permitted_joined hj hc (by decide))) (build_give_none hl he) rfl
  · exact exec_slot_sent hp hn hi hs (by rw [nextWanted_listen hj hc, if_pos h]) rfl
  · exact exec_slot_nothing hp (by rw [nextWanted_listen hj hc, if_neg h])

end Sys2Proof.Machine
end

section
/-! SUPPORT. The plan at the end of an event by the eight steps of R63: the statement O8. -/

namespace Sys2Proof.Machine

-- One proof after the other, so that the check of the whole text stays within its limit of threads.
set_option Elab.async false

/-! ### The eight steps (R63) -/

theorem boosting_iff (s : State) : boosting s = true ↔ s.mode.boost.isSome = true ∨ s.humid.state = .boost := by
  simp [boosting, humidActive]

theorem anyOverdue_iff (s : State) : anyOverdue s = true ↔
    s.filters.supply.state = .overdue ∨ s.filters.extract.state = .overdue := by
  simp [anyOverdue]

theorem trimStep_eq (supply : Nat) (trim : Int) :
    trimStep supply trim = if supply = 0 then 0 else (max 0 (min 255 ((supply : Int) + trim))).toNat := by
  unfold trimStep
  split
  · rfl
  · omega

theorem stopStep_eq (row : ClassRow) (s : State) (cap : Nat) (flows : Nat × Nat) : stopStep row s cap flows =
    if effectiveMode s = .off ∨ effectiveMode s = .frostStop ∨ s.join.membership ≠ .joined then (0, 0)
    else if s.supplyFan.state = .failed ∧ s.extractFan.state = .failed then (0, 0)
    else if s.supplyFan.state = .failed then (0, min row.away cap)
    else if s.extractFan.state = .failed then (row.away, 0)
    else flows := by
  have hcond : ((decide (effectiveMode s = .off) || decide (effectiveMode s = .frostStop) ||
      decide (s.join.membership ≠ .joined)) = true) ↔
      (effectiveMode s = .off ∨ effectiveMode s = .frostStop ∨ s.join.membership ≠ .joined) := by
    simp only [Bool.or_eq_true, decide_eq_true_eq, or_assoc]
  unfold stopStep
  simp only [hcond]
  by_cases h1 : s.supplyFan.state = .failed <;> by_cases h2 : s.extractFan.state = .failed <;> simp [h1, h2]

/-- The demand of the first three steps and the targets of the other five. -/
theorem eightSteps_eq (row : ClassRow) (s : State) (cap : Nat) :
    eightSteps row s cap = (demandOf row s, targetsOf row s (demandOf row s) cap) := by
  have hdemand : (eightSteps row s cap).1 = demandOf row s := by
    unfold eightSteps demandOf
    simp only [← boosting_iff, ← anyOverdue_iff]
    unfold ClassRow.flow
    cases baseMode s.mode <;> rfl
  have htargets : (eightSteps row s cap).2 = targetsOf row s (eightSteps row s cap).1 cap := by
    unfold targetsOf
    rw [stopStep_eq, trimStep_eq]
    rfl
  rw [← hdemand, ← htargets]

/-- The plan and the stack share's figures at the end of an event. -/
theorem settle_planned {s : State} {x : Straps} (hx : s.join.straps = some x) :
    let t := settle s
    let row := classRow x.fanClass
    let flows := eightSteps row t t.stack.cap
    t.stack.demand = flows.1 ∧ t.plan.supply = flows.2.1 ∧ t.plan.extract = flows.2.2 ∧ t.stack.claim = flows.2.2 ∧
    t.plan.effective = effectiveMode t ∧
    (t.plan.curbed = true ↔ (t.mode.boost.isSome = true ∨ t.humid.state = .boost) ∧ flows.2.2 < row.boost) := by
  have hcomposed := settle_composed s
  have hd : (settle s).stack.demand = demandOf (classRow x.fanClass) (settle s) := settle_demand hx
  have hx' : (settle s).join.straps = some x := by rw [settle_join]; exact hx
  generalize settle s = t at hcomposed hd hx'
  intro t' row flows
  have hanswer : answerDemand t (demandOf (classRow x.fanClass) t) = t.stack := if_pos hd.symm
  have hshape := composeOnce_some hx' _ rfl
  rw [hcomposed, hanswer] at hshape
  have hflows : flows = (demandOf row t, targetsOf row t (demandOf row t) t.stack.cap) := eightSteps_eq row t t.stack.cap
  rw [hflows]
  have hplan := congrArg State.plan hshape
  have hstack := congrArg State.stack hshape
  refine ⟨hd, congrArg Plan.supply hplan, congrArg Plan.extract hplan, congrArg Stack.claim hstack,
    congrArg Plan.effective hplan, ?_⟩
  rw [← boosting_iff]
  have hcurbed : t.plan.curbed = (boosting t && decide ((targetsOf row t (demandOf row t) t.stack.cap).2 < row.boost)) :=
    congrArg Plan.curbed hplan
  show t.plan.curbed = true ↔ boosting t = true ∧ _
  rw [hcurbed, Bool.and_eq_true, decide_eq_true_eq]

theorem settle_unlatched {s : State} (hx : s.join.straps = none) : (settle s).plan.supply = 0 ∧ (settle s).plan.extract = 0 := by
  have hcomposed := settle_composed s
  have hx' : (settle s).join.straps = none := by rw [settle_join]; exact hx
  generalize settle s = t at hcomposed hx'
  have hshape : composeOnce t = { t with plan := { t.plan with effective := effectiveMode t, supply := 0, extract := 0 } } := by
    unfold composeOnce
    rw [hx']
  rw [← hcomposed, hshape]
  exact ⟨rfl, rfl⟩

/-! ### The cap formed for a changed demand (R83) -/

/-- A composition holds its demand and its cap, or forms the cap for the demand it finds. -/
theorem compose_demand_or_cap (s : State) : (compose s).stack.demand = s.stack.demand ∨ capFormed (compose s) := by
  simp only [compose]
  split
  next h => exact .inl h
  next => exact .inr (composeOnce_capFormed (formCap_capFormed _))

/-- The state that a round composes. -/
def noticed (s : State) : State := noticeStop (requestTake (noticeFan (noticeEligibility s)))

theorem noticeRound_eq (s : State) : noticeRound s = handTargets (compose (noticed s)) := rfl

theorem noticeRound_stack (s : State) : (noticeRound s).stack = (compose (noticed s)).stack := by
  rw [noticeRound_eq, handTargets_stack]

theorem noticed_stack (s : State) : (noticed s).stack = s.stack := by simp [noticed]

theorem noticeRound_demand_or_cap (s : State) : (noticeRound s).stack.demand = s.stack.demand ∨ capFormed (noticeRound s) := by
  rcases compose_demand_or_cap (noticed s) with h | h
  · left
    rw [noticeRound_stack, h, noticed_stack]
  · right
    rw [noticeRound_eq]
    exact capFormed_congr (handTargets_join _) (handTargets_line _) (handTargets_peers _) (handTargets_stack _) h

/-- What every round and the outputs keep, the end of an event keeps. -/
theorem settle_of_rounds {P : State → Prop} (hround : ∀ u, P u → P (noticeRound u)) (hout : ∀ u, P u → P (followOutputs u))
    {s : State} (h : P s) : P (settle s) :=
  hout _ (hround _ (hround _ (hround _ (hround _ h))))

theorem settle_demand_cap {s : State} (h : (settle s).stack.demand ≠ s.stack.demand ∨ capFormed s) : capFormed (settle s) := by
  rcases h with h | h
  · have hkept : (settle s).stack.demand = s.stack.demand ∨ capFormed (settle s) := by
      refine settle_of_rounds (P := fun u => u.stack.demand = s.stack.demand ∨ capFormed u) (fun u hu => ?_) (fun u hu => ?_) (.inl rfl)
      · rcases hu with hu | hu
        · exact (noticeRound_demand_or_cap u).imp_left fun e => e.trans hu
        · exact .inr (noticeRound_capFormed hu)
      · rw [followOutputs_stack]
        exact hu.imp_right (capFormed_congr (followOutputs_join _) (followOutputs_line _) (followOutputs_peers _)
          (followOutputs_stack _))
    exact hkept.resolve_left h
  · exact settle_capFormed h

/-! ### An event after which one round leaves nothing to tell (log 6) -/

/-- No fan stands before its last stall (R75, R76). -/
def fansHold (s : State) : Prop := ∀ d : Side, (fanOf s d).state = .stalled → (fanOf s d).attempts < 5

theorem takeTarget_failed_iff {f : Fan} (h : f.state = .stalled → f.attempts < 5) (flow k : Nat) :
    (f.takeTarget flow k).state = .failed ↔ f.state = .failed := by
  refine ⟨fun ht => ?_, takeTarget_failed f flow k⟩
  unfold Fan.takeTarget at ht
  cases hs : f.state <;> rw [hs] at ht <;> dsimp only at ht
  · split at ht <;> simp [Fan.toStarting] at ht
  · split at ht <;> simp [Fan.toStopped] at ht
  · split at ht <;> simp [Fan.toStopped] at ht
  · rw [if_pos (h hs)] at ht
    split at ht <;> simp [Fan.toStopped] at ht

theorem noticeRound_fans (s : State) :
    (noticeRound s).supplyFan = s.supplyFan.takeTarget (noticeRound s).plan.supply (classFactor (noticeRound s)) ∧
    (noticeRound s).extractFan = s.extractFan.takeTarget (noticeRound s).plan.extract (classFactor (noticeRound s)) := by
  simp [noticeRound, handTargets, classFactor]

/-- A calm state: told, outside PREHEAT, no fan before its last stall. -/
def calm (s : State) : Prop := told s ∧ s.frost.stage ≠ .preheat ∧ fansHold s

theorem noticeRound_failed {s : State} (h : fansHold s) :
    ((noticeRound s).supplyFan.state = .failed ↔ s.supplyFan.state = .failed) ∧
    ((noticeRound s).extractFan.state = .failed ↔ s.extractFan.state = .failed) := by
  obtain ⟨hsupply, hextract⟩ := noticeRound_fans s
  rw [hsupply, hextract]
  exact ⟨takeTarget_failed_iff (h .supply) _ _, takeTarget_failed_iff (h .extract) _ _⟩

theorem calm_quiet {s : State} (h : calm s) : quiet (noticeRound s) := by
  obtain ⟨ht, hs, hf⟩ := h
  obtain ⟨h1, h2⟩ := noticeRound_failed hf
  have hworking : working (noticeRound s) = working s := by simp only [working, h1, h2]
  have hstage : (noticeRound s).frost.stage ≠ .preheat := by
    rw [noticeRound_frost (frostAtRest_told ht hs)]
    exact hs
  exact ⟨noticeRound_toldRound s, (noticeRound_working s).2 hworking, fun hp => absurd hp hstage⟩

/-- What the rounds after a quiet one leave. -/
theorem quiet_rounds {s : State} (h : quiet (noticeRound s)) : let t := settle s
    let u := noticeRound s
    t.stack = u.stack ∧ t.plan = u.plan ∧ t.supplyFan = u.supplyFan ∧ t.extractFan = u.extractFan ∧ t.events = u.events ∧
    t.frost.stage = u.frost.stage ∧ t.frost.reduction = u.frost.reduction ∧ t.humid = u.humid := by
  intro t u
  have h2 := noticeRound_quiet h
  have h3 := noticeRound_quiet (quiet_requestTake h)
  have h4 := noticeRound_quiet (quiet_requestTake (quiet_requestTake h))
  have ht : t = followOutputs (requestTake (requestTake (requestTake u))) := by
    show followOutputs (noticeRound (noticeRound (noticeRound (noticeRound s)))) = _
    rw [h2, h3, h4]
  rw [ht]
  simp [followOutputs, followPreheater]

end Sys2Proof.Machine
end

section
/-! SUPPORT. The evaluation of a changed demand and the fans at the end of an event: the statement O8. -/

namespace Sys2Proof.Machine

-- One proof after the other, so that the check of the whole text stays within its limit of threads.
set_option Elab.async false

/-! ### The evaluation of a changed demand (R83, R85, R87) -/

/-- What the last five steps read of a state. -/
theorem targetsOf_congr {s t : State} (row : ClassRow) (demand cap : Nat) (hm : effectiveMode t = effectiveMode s)
    (hj : t.join = s.join) (hf : t.filters.trim = s.filters.trim) (hr : t.frost.reduction = s.frost.reduction)
    (h1 : t.supplyFan.state = .failed ↔ s.supplyFan.state = .failed)
    (h2 : t.extractFan.state = .failed ↔ s.extractFan.state = .failed) :
    targetsOf row t demand cap = targetsOf row s demand cap := by
  simp only [targetsOf, stopStep, hm, hj, hf, hr, h1, h2]

theorem effectiveMode_congr {s t : State} (hm : t.mode = s.mode) (hs : t.frost.stage = s.frost.stage)
    (hh : t.humid.state = s.humid.state) (h1 : t.supplyFan.state = .failed ↔ s.supplyFan.state = .failed)
    (h2 : t.extractFan.state = .failed ↔ s.extractFan.state = .failed) : effectiveMode t = effectiveMode s := by
  have hfailed : anyFanFailed t = anyFanFailed s := by rw [Bool.eq_iff_iff, anyFanFailed_iff, anyFanFailed_iff, h1, h2]
  unfold effectiveMode humidActive
  rw [hm, hs, hfailed, hh]

theorem noticed_calm {s : State} (h : calm s) : noticed s = noticeStop (requestTake s) := by
  obtain ⟨ht, hs, _⟩ := h
  have e1 : noticeEligibility s = s := if_pos ht.symm
  have e2 : noticeFan s = s := if_neg (by simp [hs])
  rw [noticed, e1, e2]

/-- The composition of a demand that is not the held one: the claim under its cap is checked against the limit. -/
theorem compose_changed {u : State} {x : Straps} {d : Nat} (hx : u.join.straps = some x)
    (hd : demandOf (classRow x.fanClass) u = d) (hne : d ≠ u.stack.demand) :
    let claim := (targetsOf (classRow x.fanClass) u d (capFor u d)).2
    let finding := u.join.terms.stackLimit < peerClaims u + claim ∧ baseShare u < claim
    (finding → raised .stackCut (compose u) = true ∧
      (compose u).stack.backoff = (if u.stack.backoff = 0 then x.number.val + 1 else u.stack.backoff)) ∧
    (¬ finding → (compose u).stack.backoff = u.stack.backoff ∧ raised .stackCut (compose u) = raised .stackCut u) := by
  intro claim finding
  have hanswer : answerDemand u d = { u.stack with demand := d, cap := capFor u d } := if_neg hne
  have hshape := composeOnce_some hx d hd
  rw [hanswer] at hshape
  have hstack : (composeOnce u).stack = { u.stack with demand := d, cap := capFor u d, claim := claim } := by rw [hshape]
  have hcompose : compose u = composeOnce (formCap (checkLimit (composeOnce u))) :=
    if_neg (by rw [hstack]; exact hne)
  have hx1 : (composeOnce u).join.straps = some x := by rw [composeOnce_join]; exact hx
  have hback : (compose u).stack.backoff = (checkLimit (composeOnce u)).stack.backoff := by
    rw [hcompose, composeOnce_backoff]
    rfl
  have hcut : raised .stackCut (compose u) = raised .stackCut (checkLimit (composeOnce u)) := by
    rw [hcompose, composeOnce_flags]
    rfl
  have hfinding : overLimit (composeOnce u) = true ↔ finding := by
    have hover := overLimit_iff (composeOnce u)
    rw [hstack] at hover
    rw [hover]
    simp only [peerClaims, heldReports, presenceCount, composeOnce_join, composeOnce_peers]
    exact Iff.rfl
  rw [hback, hcut]
  refine ⟨fun h => ?_, fun h => ?_⟩
  · obtain ⟨hraised, hbackoff⟩ := checkLimit_of_over (hfinding.mpr h) hx1
    exact ⟨hraised, by rw [hbackoff, hstack]⟩
  · rw [checkLimit_of_within (by rw [← Bool.not_eq_true, hfinding]; exact h), hstack, composeOnce_flags]
    exact ⟨rfl, rfl⟩

theorem handTargets_cut (s : State) : raised .stackCut (handTargets s) = raised .stackCut s := by
  simp only [handTargets, raiseIf]
  split
  · exact raised_raise_other (by decide) _
  · rfl

/-- After a calm event the stack share is as one composition leaves it. -/
theorem settle_calm {s : State} (h : calm s) : (settle s).stack = (compose (noticed s)).stack ∧
    raised .stackCut (settle s) = raised .stackCut (compose (noticed s)) := by
  obtain ⟨hstack, _, _, _, hevents, _⟩ := quiet_rounds (calm_quiet h)
  refine ⟨by rw [hstack, noticeRound_stack], ?_⟩
  have hcut : raised .stackCut (settle s) = raised .stackCut (noticeRound s) := by simp only [raised, hevents]
  rw [hcut, noticeRound_eq, handTargets_cut]

/-- The last five steps read the same of the state composed and of the one the event leaves. -/
theorem settle_targetsOf {s : State} (h : calm s) (row : ClassRow) (demand cap : Nat) :
    targetsOf row (settle s) demand cap = targetsOf row (noticed s) demand cap := by
  obtain ⟨ht, hs, hf⟩ := h
  obtain ⟨_, _, hsupply, hextract, _, hstage, hreduction, hhumid⟩ := quiet_rounds (calm_quiet ⟨ht, hs, hf⟩)
  obtain ⟨f1, f2⟩ := noticeRound_failed hf
  have hfrost : (noticeRound s).frost = (noticed s).frost := by rw [noticeRound_eq, handTargets_frost, compose_frost]
  have hhumid' : (noticeRound s).humid = (noticed s).humid := by rw [noticeRound_eq, handTargets_humid, compose_humid]
  have g1 : (settle s).supplyFan.state = .failed ↔ (noticed s).supplyFan.state = .failed := by
    rw [hsupply, f1]
    simp [noticed]
  have g2 : (settle s).extractFan.state = .failed ↔ (noticed s).extractFan.state = .failed := by
    rw [hextract, f2]
    simp [noticed]
  exact targetsOf_congr row demand cap
    (effectiveMode_congr (by simp [noticed]) (by rw [hstage, hfrost]) (by rw [hhumid, hhumid']) g1 g2)
    (by simp [noticed]) (by simp [noticed]) (by rw [hreduction, hfrost]) g1 g2

theorem settle_changed {s : State} {x : Straps} (h : calm s) (hx : s.join.straps = some x) :
    let t := settle s
    let row := classRow x.fanClass
    let demand := demandOf row t
    let claim := (eightSteps row t (capFor s demand)).2.2
    let finding := s.join.terms.stackLimit < ((heldReports s).map Report.claim).sum + claim ∧
      s.join.terms.stackLimit / presenceCount s < claim
    demand ≠ s.stack.demand →
      (finding → raised .stackCut t = true ∧
        t.stack.backoff = (if s.stack.backoff = 0 then x.number.val + 1 else s.stack.backoff)) ∧
      (¬ finding → t.stack.backoff = s.stack.backoff ∧ raised .stackCut t = raised .stackCut s) := by
  intro t row demand claim finding hne
  obtain ⟨hstack, hcut⟩ := settle_calm h
  have hdemand : demandOf row (noticed s) = demand := (noticeRound_demandOf row s).trans (settle_demandOf row s).symm
  have hcap : capFor (noticed s) demand = capFor s demand :=
    capFor_congr _ (by simp [noticed]) (by simp [noticed]) (by simp [noticed]) (by rw [noticed_stack])
  have hclaim : (targetsOf row (noticed s) demand (capFor (noticed s) demand)).2 = claim := by
    rw [hcap, ← settle_targetsOf h]
    exact (congrArg (fun f => f.2.2) (eightSteps_eq row t (capFor s demand))).symm
  have hchanged := compose_changed (u := noticed s) (x := x) (d := demand) (by simpa [noticed] using hx) hdemand
    (by rw [noticed_stack]; exact hne)
  rw [hclaim, noticed_stack] at hchanged
  have hfinding : (noticed s).join.terms.stackLimit < peerClaims (noticed s) + claim ∧ baseShare (noticed s) < claim ↔ finding := by
    simp only [peerClaims, heldReports, baseShare, presenceCount, noticed, noticeStop_join, noticeStop_peers, requestTake_join,
      requestTake_peers, noticeFan_join, noticeFan_peers, noticeEligibility_join, noticeEligibility_peers]
    exact Iff.rfl
  have hraised : raised .stackCut (noticed s) = raised .stackCut s := by simp [raised, noticed]
  rw [hstack, hcut, ← hfinding, ← hraised]
  exact hchanged

theorem ownDemandEvaluated_holds : ownDemandEvaluated := fun _ =>
  ⟨settle_demand_cap, settle_uncut, fun x hx ht hs hf => settle_changed (x := x) ⟨ht, hs, hf⟩ hx⟩

/-! ### Fans (R71 to R76) -/

theorem takeTarget_stopped {f : Fan} {flow k : Nat} (h : f.state = .stopped) : f.takeTarget flow k =
    if flow * k = 0 then { f with targetFlow := flow, targetSpeed := flow * k }
    else Fan.toStarting { f with targetFlow := flow, targetSpeed := flow * k } := by
  rw [Fan.takeTarget, h]

theorem takeTarget_moving {f : Fan} {flow k : Nat} (h : f.state = .starting ∨ f.state = .running) : f.takeTarget flow k =
    if flow * k = 0 then Fan.toStopped { f with targetFlow := flow, targetSpeed := flow * k }
    else { f with targetFlow := flow, targetSpeed := flow * k } := by
  rcases h with h | h <;> rw [Fan.takeTarget, h]

theorem takeTarget_stalled {f : Fan} {flow k : Nat} (h : f.state = .stalled) : f.takeTarget flow k =
    if flow * k = 0 then
      if f.attempts < 5 then Fan.toStopped { f with targetFlow := flow, targetSpeed := flow * k }
      else Fan.toFailed { f with targetFlow := flow, targetSpeed := flow * k }
    else { f with targetFlow := flow, targetSpeed := flow * k } := by
  rw [Fan.takeTarget, h]

theorem takeTarget_held {f : Fan} {flow k : Nat} (h : f.state = .failed) :
    f.takeTarget flow k = { f with targetFlow := flow, targetSpeed := flow * k } := by
  rw [Fan.takeTarget, h]

theorem takeTarget_cases (f : Fan) (flow k : Nat) :
    let g : Fan := { f with targetFlow := flow, targetSpeed := flow * k }
    let stop : Fan := { g with state := .stopped, duty := 0, measured := 0, stateTimer := none, stallWindow := none,
                               runTime := 0, loopTimer := none }
    (f.state = .stopped → flow * k = 0 → f.takeTarget flow k = g) ∧
    (f.state = .stopped → flow * k ≠ 0 → f.takeTarget flow k = { g with
      state := .starting, duty := 128, measured := 0, stateTimer := some (seconds 2), stallWindow := none,
      edgeSeen := false, lastEdge := none, runTime := 0, loopTimer := none }) ∧
    (f.state = .starting ∨ f.state = .running → flow * k = 0 → f.takeTarget flow k = stop) ∧
    (f.state = .starting ∨ f.state = .running ∨ f.state = .stalled → flow * k ≠ 0 → f.takeTarget flow k = g) ∧
    (f.state = .stalled → flow * k = 0 → f.attempts < 5 → f.takeTarget flow k = stop) ∧
    (f.state = .stalled → flow * k = 0 → 5 ≤ f.attempts → f.takeTarget flow k = { stop with state := .failed }) ∧
    (f.state = .failed → f.takeTarget flow k = g) := by
  refine ⟨fun h h0 => ?_, fun h h0 => ?_, fun h h0 => ?_, fun h h0 => ?_, fun h h0 h5 => ?_, fun h h0 h5 => ?_, takeTarget_held⟩
  · rw [takeTarget_stopped h, if_pos h0]
  · rw [takeTarget_stopped h, if_neg h0]
    rfl
  · rw [takeTarget_moving h, if_pos h0]
    rfl
  · rcases or_assoc.mpr h with h | h
    · rw [takeTarget_moving h, if_neg h0]
    · rw [takeTarget_stalled h, if_neg h0]
  · rw [takeTarget_stalled h, if_pos h0, if_pos h5]
    rfl
  · rw [takeTarget_stalled h, if_pos h0, if_neg (by omega)]
    rfl

/-- The flow that the plan gives a fan. -/
def flowOf (s : State) : Side → Nat
  | .supply => s.plan.supply
  | .extract => s.plan.extract

theorem noticeRound_fanOf (s : State) (d : Side) :
    fanOf (noticeRound s) d = (fanOf s d).takeTarget (flowOf (noticeRound s) d) (classFactor (noticeRound s)) := by
  obtain ⟨hsupply, hextract⟩ := noticeRound_fans s
  cases d
  exacts [hsupply, hextract]

theorem followOutputs_fanOf (s : State) (d : Side) : fanOf (followOutputs s) d = fanOf s d := by
  cases d <;> simp [fanOf]

theorem settle_fan_held (s : State) (d : Side) :
    (fanOf (settle s) d).takeTarget (flowOf (settle s) d) (classFactor (settle s)) = fanOf (settle s) d := by
  obtain ⟨hsupply, hextract⟩ := settle_targetsHeld s
  cases d
  exacts [hsupply, hextract]

theorem handTargets_fanFailed {s : State} {d : Side} (h : (fanOf s d).state ≠ .failed)
    (hf : (fanOf (handTargets s) d).state = .failed) : raised .fanFailed (handTargets s) = true := by
  have hnew : (newlyFailed s.supplyFan (s.supplyFan.takeTarget s.plan.supply (classFactor s)) ||
      newlyFailed s.extractFan (s.extractFan.takeTarget s.plan.extract (classFactor s))) = true := by
    cases d
    · have hs : (s.supplyFan.takeTarget s.plan.supply (classFactor s)).state = .failed := by simpa [handTargets, fanOf] using hf
      have hn : s.supplyFan.state ≠ .failed := h
      simp [newlyFailed, hs, hn]
    · have hs : (s.extractFan.takeTarget s.plan.extract (classFactor s)).state = .failed := by simpa [handTargets, fanOf] using hf
      have hn : s.extractFan.state ≠ .failed := h
      simp [newlyFailed, hs, hn]
  rw [handTargets, hnew, raiseIf_true]
  exact raise_raised _ _

/-- A fan that fails in a round does so with FAN_FAILED raised (R76). -/
theorem noticeRound_fanFailed {s : State} {d : Side} (h : (fanOf s d).state ≠ .failed)
    (hf : (fanOf (noticeRound s) d).state = .failed) : raised .fanFailed (noticeRound s) = true := by
  have hsame : ∀ d, fanOf (compose (noticed s)) d = fanOf s d := fun d => by cases d <;> simp [fanOf, noticed]
  rw [noticeRound_eq] at hf ⊢
  exact handTargets_fanFailed (by rw [hsame]; exact h) hf

/-- A fan not failed before an event and failed after it has FAN_FAILED raised (R76). -/
theorem settle_fanFailed {s : State} {d : Side} (h : (fanOf s d).state ≠ .failed) (hf : (fanOf (settle s) d).state = .failed) :
    raised .fanFailed (settle s) = true := by
  have hkept : (fanOf (settle s) d).state ≠ .failed ∨ raised .fanFailed (settle s) = true := by
    refine settle_of_rounds (P := fun u => (fanOf u d).state ≠ .failed ∨ raised .fanFailed u = true) (fun u hu => ?_)
      (fun u hu => ?_) (.inl h)
    · by_cases hn : (fanOf (noticeRound u) d).state = .failed
      · exact .inr (hu.elim (fun h => noticeRound_fanFailed h hn) (noticeRound_keeps _ u))
      · exact .inl hn
    · rw [followOutputs_fanOf]
      simpa [raised] using hu
  exact hkept.resolve_left (not_not.mpr hf)

/-- A failed fan holds the targets it is given and no more (R76). -/
theorem settle_fan_failed {s : State} {d : Side} (h : (fanOf s d).state = .failed) : fanOf (settle s) d =
    { fanOf s d with targetFlow := flowOf (settle s) d, targetSpeed := flowOf (settle s) d * classFactor (settle s) } := by
  have hkept : ∃ flow speed, fanOf (settle s) d = { fanOf s d with targetFlow := flow, targetSpeed := speed } := by
    refine settle_of_rounds (P := fun u => ∃ flow speed, fanOf u d = { fanOf s d with targetFlow := flow, targetSpeed := speed })
      (fun u ⟨flow, speed, hu⟩ => ?_) (fun u hu => ?_) ⟨_, _, rfl⟩
    · refine ⟨flowOf (noticeRound u) d, flowOf (noticeRound u) d * classFactor (noticeRound u), ?_⟩
      rw [noticeRound_fanOf, takeTarget_held (by rw [hu]; exact h), hu]
    · rw [followOutputs_fanOf]
      exact hu
  obtain ⟨flow, speed, hu⟩ := hkept
  rw [← settle_fan_held, takeTarget_held (by rw [hu]; exact h), hu]

/-- A fan STALLED at its last attempt that is given a target of 0 is FAILED (R75, R76). -/
theorem settle_fan_last {s : State} {d : Side} (h : (fanOf s d).state = .stalled) (h5 : 5 ≤ (fanOf s d).attempts)
    (h0 : flowOf (settle s) d * classFactor (settle s) = 0) :
    (fanOf (settle s) d).state = .failed ∧ (fanOf (settle s) d).duty = 0 ∧ raised .fanFailed (settle s) = true := by
  have hkept : ((fanOf (settle s) d).state = .stalled ∧ 5 ≤ (fanOf (settle s) d).attempts) ∨
      ((fanOf (settle s) d).state = .failed ∧ (fanOf (settle s) d).duty = 0) := by
    refine settle_of_rounds (P := fun u => ((fanOf u d).state = .stalled ∧ 5 ≤ (fanOf u d).attempts) ∨
      ((fanOf u d).state = .failed ∧ (fanOf u d).duty = 0)) (fun u hu => ?_) (fun u hu => ?_) (.inl ⟨h, h5⟩)
    · rw [noticeRound_fanOf]
      rcases hu with ⟨hs, ha⟩ | ⟨hf, hd⟩
      · by_cases hz : flowOf (noticeRound u) d * classFactor (noticeRound u) = 0
        · right
          rw [takeTarget_stalled hs, if_pos hz, if_neg (by omega)]
          exact ⟨rfl, rfl⟩
        · left
          rw [takeTarget_stalled hs, if_neg hz]
          exact ⟨hs, ha⟩
      · right
        rw [takeTarget_held hf]
        exact ⟨hf, hd⟩
    · rw [followOutputs_fanOf]
      exact hu
  have hfailed : (fanOf (settle s) d).state = .failed ∧ (fanOf (settle s) d).duty = 0 := by
    refine hkept.resolve_left fun ⟨hs, ha⟩ => ?_
    have hheld := settle_fan_held s d
    rw [takeTarget_stalled hs, if_pos h0, if_neg (by omega)] at hheld
    rw [← hheld] at hs
    cases hs
  exact ⟨hfailed.1, hfailed.2, settle_fanFailed (by rw [h]; decide) hfailed.1⟩

/-- After a calm event each fan has taken the target of the plan once. -/
theorem settle_fans_calm {s : State} (h : calm s) :
    (settle s).supplyFan = s.supplyFan.takeTarget (settle s).plan.supply (classFactor (settle s)) ∧
    (settle s).extractFan = s.extractFan.takeTarget (settle s).plan.extract (classFactor (settle s)) := by
  obtain ⟨_, hplan, hsupply, hextract, _⟩ := quiet_rounds (calm_quiet h)
  have hk : classFactor (settle s) = classFactor (noticeRound s) := by simp [classFactor]
  rw [hplan, hk, hsupply, hextract]
  exact noticeRound_fans s

theorem plansAndFans_holds : plansAndFans := by
  refine ⟨fun s x hx => ?_, ownDemandEvaluated_holds, fun s => settle_unlatched, ⟨rfl, rfl, rfl, rfl⟩, takeTarget_cases,
    fun s => ⟨settle_targetsHeld s, fun ht hs hf => settle_fans_calm ⟨ht, hs, hf⟩⟩, fun s d => ?_⟩
  · obtain ⟨hdemand, hsupply, hextract, hclaim, heffective, hcurbed⟩ := settle_planned hx
    exact ⟨hdemand, hsupply, hextract, hclaim, heffective, hcurbed, fun hd => settle_same hx hd⟩
  · cases d
    · exact ⟨settle_fan_last (d := .supply), settle_fanFailed (d := .supply), settle_fan_failed (d := .supply)⟩
    · exact ⟨settle_fan_last (d := .extract), settle_fanFailed (d := .extract), settle_fan_failed (d := .extract)⟩

end Sys2Proof.Machine
end

section
/-! SUPPORT. What the end of an event tells the frost guard, and the statement O8. -/

namespace Sys2Proof.Machine

-- One proof after the other, so that the check of the whole text stays within its limit of threads.
set_option Elab.async false

/-! ### The notices of eligibility and of the supply fan (R100, R103, R104) -/

theorem noticeEligibility_of_told {s : State} (h : told s) : noticeEligibility s = s := if_pos h.symm

theorem eligibleNow_noticeEligibility (s : State) : eligibleNow (noticeEligibility s) = eligibleNow s :=
  eligibleNow_congr (by simp) (by simp) (by simp)

theorem told_noticeEligibility (s : State) : told (noticeEligibility s) := by
  rw [told, noticeEligibility_told, eligibleNow_noticeEligibility]

/-- A notice told at once again says nothing. -/
theorem noticeRound_noticeEligibility (s : State) : noticeRound (noticeEligibility s) = noticeRound s := by
  simp only [noticeRound, noticeEligibility_of_told (told_noticeEligibility s)]

theorem settle_noticeEligibility (s : State) : settle s = settle (noticeEligibility s) := by
  rw [settle, settle, noticeRound_noticeEligibility]

theorem noticeFan_off {s : State} (h : s.frost.stage ≠ .preheat) : noticeFan s = s := if_neg (by simp [h])

theorem noticeFan_moves {s : State} (h : supplyMoves s = true) : noticeFan s = s := if_neg (by simp [h])

theorem noticeFan_stops {s : State} (hs : s.frost.stage = .preheat) (h : supplyMoves s = false) :
    noticeFan s = giveUp (preheatToReduce s) := if_pos (by simp [hs, h])

theorem noticeFan_again (s : State) : noticeFan (noticeFan s) = noticeFan s := by
  by_cases hs : s.frost.stage = .preheat
  · cases hm : supplyMoves s
    · rw [noticeFan_stops hs hm]
      exact noticeFan_off (by simp [preheatToReduce])
    · rw [noticeFan_moves hm, noticeFan_moves hm]
  · rw [noticeFan_off hs, noticeFan_off hs]

theorem noticeFan_told {s : State} (h : told s) : told (noticeFan s) := by
  refine (told_congr ?_ ?_ ?_ ?_).mpr h <;> simp

theorem settle_noticeFan {s : State} (h : told s) : settle s = settle (noticeFan s) := by
  have hround : noticeRound (noticeFan s) = noticeRound s := by
    simp only [noticeRound, noticeEligibility_of_told h, noticeEligibility_of_told (noticeFan_told h), noticeFan_again]
  rw [settle, settle, hround]

/-- The eligibility won (R100, R135). -/
theorem noticeEligibility_won {s : State} (he : s.own.eligible = false) (hn : eligibleNow s = true) : noticeEligibility s =
    if s.frost.stage = .reduce && !s.frost.blind then reduceEligible { s with own := { s.own with eligible := true } }
    else { s with own := { s.own with eligible := true } } := by
  unfold noticeEligibility
  rw [if_neg (by rw [he, hn]; decide), hn]
  rfl

/-- The eligibility lost (R103, R135). -/
theorem noticeEligibility_lost {s : State} (he : s.own.eligible = true) (hn : eligibleNow s = false) : noticeEligibility s =
    if s.frost.stage = .preheat then preheatLost { s with own := { s.own with eligible := false } }
    else { s with own := { s.own with eligible := false } } := by
  unfold noticeEligibility
  rw [if_neg (by rw [he, hn]; decide), hn]
  rfl

theorem reduceEligible_cases (s : State) :
    (s.supplyFan.state = .starting ∨ s.supplyFan.state = .running → reduceEligible s = toPreheat s) ∧
    (s.supplyFan.state ≠ .starting → s.supplyFan.state ≠ .running → reduceEligible s = giveUp s) := by
  refine ⟨fun h => if_pos ((supplyMoves_iff s).mpr h), fun h1 h2 => if_neg fun h => ?_⟩
  rcases (supplyMoves_iff s).mp h with h | h
  exacts [h1 h, h2 h]

/-- A place granted is given up with PREHEAT, one displaced is kept (R103). -/
theorem preheatLost_cases (s : State) :
    (∀ e, ownEntry s = some e → granted s e.station = true → preheatLost s = giveUp (preheatToReduce s)) ∧
    ((∀ e, ownEntry s = some e → granted s e.station = false) → preheatLost s = preheatToReduce s) := by
  refine ⟨fun e he hg => ?_, fun h => ?_⟩
  · rw [preheatLost, he]
    exact if_pos hg
  · unfold preheatLost
    rcases he : ownEntry s with _ | e
    · rfl
    · exact if_neg (by rw [h e he]; decide)

/-! ### PREHEAT at the end of an event (R104) -/

/-- Four rounds end in a quiet one: each that does not takes from the working fans or from PREHEAT. -/
theorem rounds_quiet (s : State) : quiet (noticeRound (noticeRound (noticeRound (noticeRound s)))) := by
  have hstep : ∀ u : State, ¬ quiet (noticeRound u) →
      working (noticeRound u) + preheating (noticeRound (noticeRound u)) < working u + preheating (noticeRound u) := fun u hn => by
    obtain ⟨hle, hcomposed⟩ := noticeRound_working u
    obtain ⟨ple, plt⟩ := noticeRound_preheating (noticeRound_toldRound u).1
    by_cases hw : working (noticeRound u) = working u
    · by_cases hm : (noticeRound u).frost.stage = .preheat ∧ supplyMoves (noticeRound u) = false
      · have := plt hm.1 hm.2
        omega
      · exact absurd ⟨noticeRound_toldRound u, hcomposed hw,
          fun hp => by rw [← Bool.not_eq_false]; exact fun h => hm ⟨hp, h⟩⟩ hn
    · omega
  have hkept : ∀ u : State, quiet (noticeRound u) → quiet (noticeRound (noticeRound u)) := fun u hq => by
    rw [noticeRound_quiet hq]
    exact quiet_requestTake hq
  by_contra h4
  have h3 := mt (hkept _) h4
  have h2 := mt (hkept _) h3
  have h1 := mt (hkept _) h2
  have hfans : working s ≤ 2 := by
    unfold working
    split <;> split <;> decide
  have hpreheat : preheating (noticeRound s) ≤ 1 := by
    unfold preheating
    split <;> decide
  have d1 := hstep _ h1
  have d2 := hstep _ h2
  have d3 := hstep _ h3
  have d4 := hstep _ h4
  omega

/-- In PREHEAT at the end of an event the supply fan moves (R104). -/
theorem settle_preheat_moves {s : State} (h : (settle s).frost.stage = .preheat) :
    (settle s).supplyFan.state = .starting ∨ (settle s).supplyFan.state = .running := by
  obtain ⟨_, _, hmoves⟩ := rounds_quiet s
  have hstage : (settle s).frost.stage = (noticeRound (noticeRound (noticeRound (noticeRound s)))).frost.stage := by
    simp [settle, followOutputs, followPreheater]
  have hfan : (settle s).supplyFan = (noticeRound (noticeRound (noticeRound (noticeRound s)))).supplyFan := by
    simp [settle]
  rw [hfan]
  exact (supplyMoves_iff _).mp (hmoves (by rw [← hstage]; exact h))

/-- The request for a place, made when R107 asks for it, and what it leaves. -/
theorem requestTake_place (s : State) :
    (requestTake s).out.give = s.out.give ∧ (requestTake s).own.leaving = s.own.leaving ∧
    (wantsTake s = true → (requestTake s).out.take = true ∧ (requestTake s).own.outstanding = true) ∧
    (wantsTake s = false → (requestTake s).out.take = s.out.take ∧ (requestTake s).own.outstanding = s.own.outstanding) := by
  cases hw : wantsTake s
  · rw [requestTake_off hw]
    exact ⟨rfl, rfl, fun h => absurd h (by decide), fun _ => ⟨rfl, rfl⟩⟩
  · have hmade : requestTake s = { s with out := { s.out with take := true }, own := { s.own with outstanding := true } } := by
      have h := hw
      simp only [wantsTake, Bool.and_eq_true, decide_eq_true_eq] at h
      obtain ⟨⟨⟨_, hj⟩, hc⟩, _⟩ := h
      exact if_pos (by rw [hw, permitted_clear hj hc]; rfl)
    rw [hmade]
    exact ⟨rfl, rfl, fun _ => ⟨rfl, rfl⟩, fun h => absurd h (by decide)⟩

theorem frostTold_holds : frostTold := by
  refine ⟨fun s => ⟨settle_noticeEligibility s, settle_noticeFan, noticeEligibility_of_told, fun he hn hs hb => ?_,
    fun he hn hs => ?_, fun he hn hs => ?_, fun hs => ?_, noticeFan_off, settle_preheat_moves⟩,
    fun s => ⟨settle_wantsTake s, fun ht hs => ?_⟩⟩
  · rw [noticeEligibility_won he hn, if_pos (by rw [hs, hb]; rfl)]
    exact reduceEligible_cases { s with own := { s.own with eligible := true } }
  · rw [noticeEligibility_won he hn, if_neg]
    rcases hs with hs | hs <;> simp [hs]
  · rw [noticeEligibility_lost he hn, if_neg hs]
  · intro lost
    refine ⟨fun he hn => ?_, fun h1 h2 => ?_, fun h => noticeFan_moves ((supplyMoves_iff s).mpr h)⟩
    · rw [noticeEligibility_lost he hn, if_pos hs]
      exact preheatLost_cases { s with own := { s.own with eligible := false } }
    · refine noticeFan_stops hs ?_
      rw [← Bool.not_eq_true, supplyMoves_iff]
      exact fun h => h.elim h1 h2
  · obtain ⟨hout, hown⟩ := settle_place ht hs
    rw [hout, hown]
    exact requestTake_place s

/-! ### The marks and the statement -/

theorem marksFollow_holds : marksFollow := by
  intro s
  have hminute : ∀ d, minuteKept (settle s) d = true ↔ minuteKept s d = true ∧ (fanOf (settle s) d).state = .running := fun d => by
    rw [settle_minuteKept, Bool.and_eq_true, decide_eq_true_eq]
  have hspoiled : (settle s).filters.spoiled = true ↔ s.filters.spoiled = true ∨ spoiledByEvents (settle s) := by
    rw [← unsteady_iff, ← Bool.or_eq_true, ← settle_spoiled]
  have hsupply := hminute .supply
  have hextract := hminute .extract
  simp only [minuteKept, fanOf] at hsupply hextract
  exact ⟨hspoiled, hsupply, hextract⟩

/-- Settles O8. -/
theorem endOfEvent : Obligations.EndOfEvent := by
  refine ⟨fun s => ⟨sameBase_settle (sameBase_frost s s.frost), settle_told s, settle_lamp s, ?_, fun g => settle_keeps g s,
    settle_stop s, settle_humid, settle_humid_stop, (settle_attempts s).1, (settle_attempts s).2, settle_tLim s, settle_reTake s,
    settle_thawTimer s, ?_, fun ht hs => settle_frost (frostAtRest_told ht hs)⟩, plansAndFans_holds, frostTold_holds,
    marksFollow_holds⟩
  · rw [settle_preheater]
    simp only [Bool.and_eq_true, decide_eq_true_eq, and_assoc]
  · obtain ⟨_, _, _, _, _, _, hblind⟩ := settle_steady s
    exact hblind

end Sys2Proof.Machine
end

section
/-! SUPPORT. The own place at the ends of events, and the grants: the statement O26. -/

namespace Sys2Proof.Machine

-- One proof after the other, so that the check of the whole text stays within its limit of threads.
set_option Elab.async false

/-! ### Ends of events that leave the own place -/

/-- The frost guard neither heats nor seeks a place: not in PREHEAT, and in REDUCE only with BLIND (R97, R107). -/
def frostIdle (s : State) : Prop := s.frost.stage ≠ .preheat ∧ (s.frost.stage = .reduce → s.frost.blind = true)

/-- The outgoing GIVE and TAKE and the own place but for the eligibility. -/
structure SamePlace (s t : State) : Prop where
  out : t.out = s.out := by rfl
  leaving : t.own.leaving = s.own.leaving := by rfl
  outstanding : t.own.outstanding = s.own.outstanding := by rfl

theorem SamePlace.trans {s t u : State} (h : SamePlace s t) (k : SamePlace t u) : SamePlace s u :=
  ⟨k.out.trans h.out, k.leaving.trans h.leaving, k.outstanding.trans h.outstanding⟩

theorem noticeEligibility_idle {s : State} (h : frostIdle s) :
    noticeEligibility s = { s with own := { s.own with eligible := eligibleNow s } } := by
  obtain ⟨hs, hb⟩ := h
  have hno : (decide (s.frost.stage = .reduce) && !s.frost.blind) = false := by
    by_cases hr : s.frost.stage = .reduce
    · simp [hb hr]
    · simp [hr]
  unfold noticeEligibility
  split
  next he => rw [he]
  next => simp only [hno, if_false, Bool.false_eq_true, ite_self]

theorem noticeRound_idle {s : State} (h : frostIdle s) : frostIdle (noticeRound s) ∧ SamePlace s (noticeRound s) := by
  have hfrost : (noticeRound s).frost = s.frost := noticeRound_frost (frostAtRest_of h.1 h.2)
  have hw : ∀ b, wantsTake { s with own := { s.own with eligible := b } } = false := fun b => by
    by_cases hr : s.frost.stage = .reduce
    · simp [wantsTake, h.2 hr]
    · exact wantsTake_stage hr
  have hnoticed : noticed s = noticeStop { s with own := { s.own with eligible := eligibleNow s } } := by
    rw [noticed, noticeEligibility_idle h, noticeFan_off (by exact h.1), requestTake_off (hw _)]
  have hround : (noticeRound s).out = s.out ∧ (noticeRound s).own = { s.own with eligible := eligibleNow s } := by
    rw [noticeRound_eq, handTargets_out, compose_out, handTargets_own, compose_own, hnoticed, noticeStop_out, noticeStop_own]
    exact ⟨rfl, rfl⟩
  obtain ⟨hout, hown⟩ := hround
  exact ⟨by unfold frostIdle; rw [hfrost]; exact h, ⟨hout, by rw [hown], by rw [hown]⟩⟩

/-- With the frost guard idle the end of an event leaves the place. -/
theorem settle_place_idle {s : State} (h : frostIdle s) : SamePlace s (settle s) := by
  have hkept : frostIdle (settle s) ∧ SamePlace s (settle s) := by
    refine settle_of_rounds (P := fun u => frostIdle u ∧ SamePlace s u) (fun u ⟨hu, hp⟩ => ?_) (fun u ⟨hu, hp⟩ => ?_) ⟨h, {}⟩
    · obtain ⟨hn, hq⟩ := noticeRound_idle hu
      exact ⟨hn, hp.trans hq⟩
    · refine ⟨?_, hp.trans ⟨by simp, by simp, by simp⟩⟩
      simpa [frostIdle, followOutputs, followPreheater] using hu
  exact hkept.2

/-- No entry to give up, and no place to be asked for. -/
def placeless (s : State) : Prop := ownEntry s = none ∧ s.out.take = false ∧ sendingTake s = false ∧
  (s.queue.state = .rebuild ∨ s.frost.reTake.isSome = true)

theorem placeless_giveUp {s : State} (h : placeless s) : giveUp s = s := giveUp_none h.2.1 h.2.2.1 h.1

theorem placeless_requestTake {s : State} (h : placeless s) : requestTake s = s := by
  obtain ⟨_, _, _, hblocked⟩ := h
  refine requestTake_off ?_
  rcases hblocked with h | h
  · simp [wantsTake, h]
  · obtain ⟨n, hn⟩ := Option.isSome_iff_exists.mp h
    simp [wantsTake, hn]

theorem ofPlace_placeless (s : State) : OfPlace (fun u => placeless u ∧ SamePlace s u) where
  congr u v ho ht hl hline hj hq hr := by
    rintro ⟨⟨he, hout, hs, hb⟩, hp⟩
    refine ⟨⟨by rw [ownEntry_congr hq hj]; exact he, by rw [ho]; exact hout, ?_, by rw [hq, hr]; exact hb⟩,
      hp.trans ⟨ho, hl, ht⟩⟩
    rw [sendingTake, sendingKind, hline]
    exact hs
  give u h := by rw [placeless_giveUp h.1]; exact h
  take u h := by rw [placeless_requestTake h.1]; exact h

theorem settle_place_placeless {s : State} (h : placeless s) : SamePlace s (settle s) :=
  ((ofPlace_placeless s).settle ⟨h, {}⟩).2

/-- A GIVE pending stays so. -/
theorem ofPlace_give : OfPlace (fun u => u.out.give = true) where
  congr u v ho _ _ _ _ _ _ h := by rw [ho]; exact h
  give u h := by
    have hreq : ∀ v : State, v.out.give = true → (requestGive v).out.give = true := fun v hv => by
      unfold requestGive
      split
      exacts [rfl, hv]
    unfold giveUp
    split
    · exact h
    · split
      · exact hreq _ h
      · split
        · exact hreq _ h
        · exact h
  take u h := by
    unfold requestTake
    split <;> exact h

/-- On a mute line with no TAKE pending the outstanding mark stays. -/
theorem ofPlace_muteOutstanding (b : Bool) :
    OfPlace (fun u => mute u ∧ u.out.take = false ∧ u.own.outstanding = b) where
  congr u v ho ht _ hline _ _ _ h := by simpa [mute, ho, ht, hline] using h
  give u := by
    rintro ⟨hm, htake, hb⟩
    unfold giveUp
    rw [if_neg (by rw [htake]; decide)]
    split
    · rw [requestGive_mute hm]
      exact ⟨hm, htake, hb⟩
    · split
      · rename_i e _
        have hm' : mute { u with own := { u.own with leaving := some e.serial } } := hm
        rw [requestGive_mute hm']
        exact ⟨hm, htake, hb⟩
      · exact ⟨hm, htake, hb⟩
  take u h := by rw [requestTake_mute h.1]; exact h

/-! ### Grants (R117, R135) -/

theorem granted_iff (s : State) (j : Station) : granted s j = true ↔ s.queue.state ≠ .rebuild ∧
    ∃ i < kEff s, (s.queue.entries[i]?).map Entry.station = some j := by
  simp only [granted, Bool.and_eq_true, decide_eq_true_eq, List.any_eq_true, List.mem_take_iff_getElem]
  refine and_congr_right fun _ => ?_
  constructor
  · rintro ⟨e, ⟨i, hi, rfl⟩, hstation⟩
    refine ⟨i, by omega, ?_⟩
    rw [List.getElem?_eq_getElem (by omega), Option.map_some, hstation]
  · rintro ⟨i, hi, hget⟩
    obtain ⟨e, he, hstation⟩ := Option.map_eq_some_iff.mp hget
    obtain ⟨hlt, hget'⟩ := List.getElem?_eq_some_iff.mp he
    exact ⟨e, ⟨i, by omega, hget'⟩, hstation⟩

theorem eligibleNow_iff (s : State) : eligibleNow s = true ↔ ∃ own, ownNumber s = some own ∧ granted s own = true ∧
    (s.queue.state = .synced ∨ s.queue.state = .unsure) ∧ s.join.membership = .joined ∧ s.line.condition = .clear := by
  unfold eligibleNow
  rcases ownNumber s with _ | own
  · simp
  · have hstate : granted s own = true → s.queue.state = .synced ∨ s.queue.state = .unsure := fun h => by
      have hn := ((granted_iff s own).mp h).1
      cases hq : s.queue.state
      exacts [absurd hq hn, .inl rfl, .inr rfl]
    simp only [Bool.and_eq_true, decide_eq_true_eq, Option.some.injEq, exists_eq_left', and_assoc]
    exact ⟨fun ⟨hg, hj, hc⟩ => ⟨hg, hstate hg, hj, hc⟩, fun ⟨hg, _, hj, hc⟩ => ⟨hg, hj, hc⟩⟩

/-- With one entry for each station at most K_eff of them are granted (R117). -/
theorem granted_count {s : State} (h : queueRuled s) :
    (s.queue.entries.filter (fun e => granted s e.station)).length ≤ kEff s := by
  have hnodup : ((s.queue.entries.filter (fun e => granted s e.station)).map Entry.station).Nodup :=
    h.sublist (List.filter_sublist.map _)
  have hsub : (s.queue.entries.filter (fun e => granted s e.station)).map Entry.station ⊆
      (s.queue.entries.take (kEff s)).map Entry.station := by
    intro j hj
    obtain ⟨e, he, rfl⟩ := List.mem_map.mp hj
    have hg := (List.mem_filter.mp he).2
    simp only [granted, Bool.and_eq_true, List.any_eq_true, decide_eq_true_eq] at hg
    obtain ⟨_, x, hx, hstation⟩ := hg
    exact List.mem_map.mpr ⟨x, hx, hstation⟩
  have hle := (List.subperm_of_subset hnodup hsub).length_le
  rw [List.length_map, List.length_map, List.length_take] at hle
  omega

theorem grantsFormed_holds : grantsFormed := ⟨granted_iff, eligibleNow_iff⟩

end Sys2Proof.Machine
end

section
/-! SUPPORT. The place asked for and given up, and the statement O26. -/

namespace Sys2Proof.Machine

-- One proof after the other, so that the check of the whole text stays within its limit of threads.
set_option Elab.async false

/-! ### Requests and give-ups (R107, R108, R132, R134) -/

theorem wantsTake_iff (s : State) : wantsTake s = true ↔ s.frost.stage = .reduce ∧ s.frost.blind = false ∧ ownEntry s = none ∧
    s.own.outstanding = false ∧ s.frost.reTake = none ∧ s.join.membership = .joined ∧ s.line.condition = .clear ∧
    s.queue.state ≠ .rebuild := by
  simp only [wantsTake, Bool.and_eq_true, decide_eq_true_eq, Bool.not_eq_true', Option.isNone_iff_eq_none, and_assoc]

theorem requestTake_made {s : State} (hw : wantsTake s = true) : requestTake s = { s with
    out := { s.out with take := true }, own := { s.own with outstanding := true } } := by
  obtain ⟨_, _, _, _, _, hj, hc, _⟩ := (wantsTake_iff s).mp hw
  exact if_pos (by rw [hw, permitted_clear hj hc]; rfl)

/-- The station may send a GIVE. -/
def sendable (s : State) : Prop := s.join.membership = .joined ∧ (s.line.condition = .clear ∨ s.line.condition = .doubt)

theorem giveUp_entry_sendable {s : State} {e : Entry} (h : s.out.take = false) (hs : sendingTake s = false)
    (he : ownEntry s = some e) (hg : sendable s) : giveUp s = { s with
      out := { s.out with give := true }, own := { s.own with leaving := some e.serial } } := by
  rw [giveUp_entry h hs he, requestGive_sendable (by exact hg.1) (by exact hg.2)]

theorem giveUp_entry_mute {s : State} {e : Entry} (h : s.out.take = false) (hs : sendingTake s = false)
    (he : ownEntry s = some e) (hm : mute s) : giveUp s = { s with own := { s.own with leaving := none } } := by
  rw [giveUp_entry h hs he, requestGive_mute (by exact hm)]

theorem placeRequests_holds : placeRequests := by
  refine ⟨fun s => ⟨wantsTake_iff s, requestTake_made, requestTake_off⟩, fun s => ?_⟩
  intro sendable'
  exact ⟨giveUp_take, fun h hs hg => by rw [giveUp_sending h hs, requestGive_sendable hg.1 hg.2],
    fun e h hs he hg => giveUp_entry_sendable h hs he hg, fun e h hs he hm => giveUp_entry_mute h hs he hm, giveUp_none⟩

/-! ### Removals (R126, R127, R129) -/

theorem shadowRemoval_holds {s : State} {j : Station} {e : Entry} (hp : s.power = .running) (he : entryOf s.queue j = some e)
    (hs : e.shadow.isSome = true) : ∃ t, exec (.shadowRemoval j) s = .next t ∧
      t.queue = { s.queue with entries := withoutStation j s.queue.entries } ∧ t.frost.reTake = s.frost.reTake ∧
      t.peers = s.peers ∧ t.line = s.line ∧ t.clock = s.clock := by
  refine ⟨settle { s with queue := s.queue.drop j }, ?_, settle_queue _, settle_reTake _, settle_peers _, settle_line _,
    settle_clock _⟩
  show live s (takeShadowRemoval j) = _
  rw [live_running hp, takeShadowRemoval, if_pos (by rw [he]; exact hs)]

/-- The own entry removed at its hold limit leaves no place and no wish for one. -/
theorem expireHold_placeless {s : State} {j : Station} (ho : ownNumber s = some j) (ht : s.out.take = false)
    (hs : sendingTake s = false) : placeless (expireHold j s) ∧ SamePlace s (expireHold j s) := by
  have honly := expireHold_only j s
  obtain ⟨hline, hout, _⟩ := honly.frame
  have hown : (expireHold j s).own = s.own := by rw [honly]
  have hnone : ownEntry (expireHold j s) = none := by
    rw [ownEntry_eq (by rw [expireHold_number]; exact ho), expireHold_queue]
    exact entryOf_drop_self _ _
  refine ⟨⟨hnone, by rw [hout]; exact ht, ?_, .inr (by rw [(expireHold_own ho).1]; rfl)⟩,
    ⟨hout, by rw [hown], by rw [hown]⟩⟩
  rw [sendingTake, sendingKind, hline]
  exact hs

theorem holdExpiry_holds {s : State} {j : Station} (hp : s.power = .running) (hg : granted s j = true) :
    ∃ t, exec (.holdExpiry j) s = .next t ∧
      t.queue = { s.queue with entries := withoutStation j s.queue.entries } ∧
      (ownNumber s = some j → raised .holdOverrun t = true ∧ t.frost.reTake = some (seconds 120) ∧
        (s.out.take = false → sendingTake s = false →
          t.out.give = s.out.give ∧ t.out.take = false ∧ t.own.leaving = s.own.leaving)) ∧
      (ownNumber s ≠ some j → t.frost.reTake = s.frost.reTake) ∧
      t.peers = s.peers ∧ t.line = s.line ∧ t.clock = s.clock := by
  have hexec : exec (.holdExpiry j) s = .next (settle (expireHold j s)) := by
    show live s (takeHoldExpiry j) = _
    rw [live_running hp, takeHoldExpiry, if_pos hg]
  obtain ⟨hline, _, hpeers, _, _, hclock, _⟩ := (expireHold_only j s).frame
  refine ⟨_, hexec, ?_, fun ho => ?_, fun ho => ?_, ?_, ?_, ?_⟩
  · rw [settle_queue, expireHold_queue]
    rfl
  · obtain ⟨hreTake, hraised⟩ := expireHold_own ho
    refine ⟨settle_keeps _ _ hraised, by rw [settle_reTake, hreTake], fun ht hs => ?_⟩
    obtain ⟨hplaceless, hsame⟩ := expireHold_placeless ho ht hs
    have hkept := hsame.trans (settle_place_placeless hplaceless)
    exact ⟨by rw [hkept.out], by rw [hkept.out, ht], hkept.leaving⟩
  · rw [settle_reTake, expireHold_other ho]
  · rw [settle_peers, hpeers]
  · rw [settle_line, hline]
  · rw [settle_clock, hclock]

/-! ### The place and the commands (R102, R103, R105, R109, R113, R136) -/

theorem reTakeWaitEnds_asks {s : State} (hp : s.power = .running) (hr : s.frost.reTake.isSome = true) (ht : told s)
    (hw : wantsTake { s with frost := { s.frost with reTake := none } } = true) :
    ∃ t, exec .reTakeWaitEnds s = .next t ∧ t.out.take = true ∧ t.own.outstanding = true := by
  have hexec : exec .reTakeWaitEnds s = .next (settle { s with frost := { s.frost with reTake := none } }) := by
    show live s endReTake = _
    rw [live_running hp, endReTake, if_pos hr]
  obtain ⟨hstage, _⟩ := (wantsTake_iff _).mp hw
  have hplace := settle_place (s := { s with frost := { s.frost with reTake := none } }) ht
    (by rw [show s.frost.stage = .reduce from hstage]; decide)
  rw [requestTake_made hw] at hplace
  exact ⟨_, hexec, by rw [hplace.1], by rw [hplace.2]⟩

theorem stopTimer_gives {s : State} (hp : s.power = .running) (ht : s.frost.stopTimer.isSome = true)
    (hs : s.frost.stage = .reduce ∨ s.frost.stage = .preheat) : exec .stopTimerExpires s = .next (settle (toStop s)) := by
  show live s endStop = _
  rw [live_running hp, endStop, if_pos (by simpa [ht] using hs)]

theorem clearTimer_gives {s : State} (hp : s.power = .running) (ht : s.frost.clearTimer.isSome = true)
    (hs : s.frost.stage = .preheat) : exec .clearTimerExpires s = .next (settle (giveUp (toWatch s))) := by
  show live s endClear = _
  rw [live_running hp, endClear, if_pos ht, hs]

/-- The line becomes DOUBT: what is left of the place as the event ends (R136). -/
theorem enterDoubt_place (s : State) : (enterDoubt s).own =
    { s.own with outstanding := s.own.outstanding && !s.out.take } ∧ (enterDoubt s).frost = s.frost := by
  simp [enterDoubt, withdrawForDoubt, setCondition]

theorem doubt_gives {s : State} {e : Entry} (hd : s.line.condition = .doubt) (hj : s.join.membership = .joined)
    (ht : s.out.take = false) (hn : s.line.sending = none) (hel : s.own.eligible = true) (hs : s.frost.stage = .preheat)
    (he : ownEntry s = some e) (hg : granted s e.station = true) :
    (settle s).out.give = true ∧ (settle s).own.leaving = some e.serial ∧ (settle s).frost.stage = .reduce := by
  have hlost : eligibleNow s = false := by
    rw [← Bool.not_eq_true, eligibleNow_iff]
    rintro ⟨_, _, _, _, _, hc⟩
    rw [hd] at hc
    cases hc
  have hnotice : noticeEligibility s = giveUp (preheatToReduce { s with own := { s.own with eligible := false } }) := by
    rw [noticeEligibility_lost hel hlost, if_pos hs]
    exact (preheatLost_cases { s with own := { s.own with eligible := false } }).1 e he hg
  have hgive := giveUp_entry_sendable (s := preheatToReduce { s with own := { s.own with eligible := false } }) (e := e) ht
    (by rw [sendingTake, sendingKind]; simp [preheatToReduce, hn]) he ⟨hj, .inr hd⟩
  have htold := told_noticeEligibility s
  rw [settle_noticeEligibility]
  rw [hnotice, hgive] at htold ⊢
  obtain ⟨hout, hown⟩ := settle_place htold (by simp [preheatToReduce])
  rw [requestTake_off (by simp [wantsTake, preheatToReduce, hd])] at hout hown
  have hfrost := settle_frost (frostAtRest_told htold (by simp [preheatToReduce]))
  rw [hout, hown, hfrost]
  exact ⟨rfl, rfl, rfl⟩

theorem receiveError_doubts {s : State} {chars : List CharLevels} (hp : s.power = .running) (hr : canReceive s = true)
    (hf : (receiveFault (receiveChars chars)).isSome = true) (hc : s.line.condition = .clear)
    (he : s.join.terms.errorThreshold ≤ min 31 (s.line.errors + 1)) :
    ∃ u : State, exec (.receiveError chars) s = .next (settle (enterDoubt u)) ∧ SamePlace s u ∧ u.own = s.own ∧
      u.frost = s.frost ∧ u.queue = s.queue ∧ u.join = s.join ∧ u.line.sending = none := by
  refine ⟨{ receiverLost s with line := { (receiverLost s).line with errors := min 31 (s.line.errors + 1) } }, ?_,
    {}, rfl, rfl, rfl, rfl, ?_⟩
  · show live s (breakFrame (receiveChars chars)) = _
    rw [live_running hp, breakFrame, if_pos (by rw [hr, hf]; rfl), errorUp_entered (s := receiverLost s) hc he]
    rfl
  · have hnone := hr
    simp only [canReceive, Bool.and_eq_true, Option.isNone_iff_eq_none] at hnone
    exact hnone.2

theorem receiveError_place {s : State} {chars : List CharLevels} {e : Entry} (hp : s.power = .running) (hr : canReceive s = true)
    (hf : (receiveFault (receiveChars chars)).isSome = true) (hc : s.line.condition = .clear)
    (he : s.join.terms.errorThreshold ≤ min 31 (s.line.errors + 1)) :
    ∃ t, exec (.receiveError chars) s = .next t ∧
      (s.out.take = true → t.own.outstanding = false) ∧ (s.out.give = true → t.out.give = true) ∧
      (told s → eligibleNow s = true → s.frost.stage = .preheat → ownEntry s = some e →
        t.out.give = true ∧ t.own.leaving = some e.serial ∧ t.frost.stage = .reduce) := by
  obtain ⟨u, hexec, hplace, hown, hfrost, hqueue, hjoin, hsending⟩ := receiveError_doubts hp hr hf hc he
  obtain ⟨down, dfrost⟩ := enterDoubt_place u
  have hdoubt : (enterDoubt u).line.condition = .doubt := by rw [enterDoubt_line]
  refine ⟨_, hexec, fun ht => ?_, fun hg => ofPlace_give.settle ?_, fun htold hel hs hentry => ?_⟩
  · refine (ofPlace_outstanding.settle ⟨by rw [hdoubt]; decide, ?_⟩).2
    rw [down, hplace.out, ht]
    exact Bool.and_false _
  · rw [enterDoubt_out, hplace.out]
    exact hg
  · obtain ⟨own, hn, hgranted, _, hj, _⟩ := (eligibleNow_iff s).mp hel
    have hstation : e.station = own := by
      rw [ownEntry_eq hn] at hentry
      exact entryIn_station hentry
    refine doubt_gives hdoubt (by rw [enterDoubt_join, hjoin, hj]) (by rw [enterDoubt_out]) (by rw [enterDoubt_line]; exact hsending)
      ?_ (by rw [dfrost, hfrost, hs]) ?_ ?_
    · rw [down, hown]
      exact htold.trans hel
    · rw [ownEntry_congr (s := s) (by rw [enterDoubt_queue, hqueue]) (by rw [enterDoubt_join, hjoin])]
      exact hentry
    · rw [granted, kEff, enterDoubt_queue, hqueue, enterDoubt_join, hjoin, hstation]
      exact hgranted

theorem enterStuck_own (s : State) : (enterStuck s).own = { s.own with
    outstanding := s.own.outstanding && !s.out.take, leaving := if s.out.give then none else s.own.leaving } := by
  rw [enterStuck, evaluate_own, raise_own]
  rfl

theorem lineStuck_place {s : State} (hp : s.power = .running) (hon : s.line.receiverOn = true) (hw : s.panel.restartWait = none)
    (hc : s.line.condition = .clear ∨ s.line.condition = .doubt) :
    ∃ t, exec .lineStuck s = .next t ∧ (s.out.give = true → t.own.leaving = none) ∧
      (s.out.take = true → t.own.outstanding = false) ∧ (s.out.take = false → t.own.outstanding = s.own.outstanding) := by
  have hexec : exec .lineStuck s = .next (settle (enterStuck (receiverLost s))) := by
    show live s lineSticks = _
    rw [live_running hp, lineSticks_clear hon hc hw]
  have hown : (enterStuck (receiverLost s)).own = { s.own with
      outstanding := s.own.outstanding && !s.out.take, leaving := if s.out.give then none else s.own.leaving } :=
    enterStuck_own (receiverLost s)
  have hstuck : (enterStuck (receiverLost s)).line.condition = .stuck := by rw [enterStuck_line]
  refine ⟨_, hexec, fun hg => (ofPlace_leaving.settle ⟨.inl hstuck, ?_⟩).2, fun ht => ?_, fun ht => ?_⟩
  · rw [hown, hg]
    rfl
  · refine (ofPlace_outstanding.settle ⟨by rw [hstuck]; decide, ?_⟩).2
    rw [hown, ht]
    exact Bool.and_false _
  · refine ((ofPlace_muteOutstanding s.own.outstanding).settle ⟨.inl hstuck, by rw [enterStuck_out]; rfl, ?_⟩).2.2
    rw [hown, ht]
    exact Bool.and_true _

theorem done_place (s : State) : SamePlace s (done [] s) := {}

/-- A panel OFF (R113). -/
theorem modeOff_place {s : State} {m : Byte} (h : portFree s) :
    let asked := holdRequest 2 [4, m] s
    let off : State := { asked with mode := { s.mode with held := some .off, boost := none } }
    (s.frost.stage ≠ .stop → exec (.modeSet 4 m) s = .next (done [] (settle (giveUp (toClear off))))) ∧
    (s.frost.stage = .stop → exec (.modeSet 4 m) s = .next (done [] (settle off))) ∧
    ∃ t, exec (.modeSet 4 m) s = .next t ∧
      (s.frost.stage ≠ .stop → s.out.take = true →
        t.out.take = false ∧ t.own.outstanding = false ∧ t.out.give = s.out.give ∧ t.own.leaving = s.own.leaving) ∧
      (∀ e, s.frost.stage ≠ .stop → s.out.take = false → sendingTake s = false → ownEntry s = some e →
        s.join.membership = .joined → s.line.condition = .clear ∨ s.line.condition = .doubt →
        t.out.give = true ∧ t.own.leaving = some e.serial) ∧
      (s.frost.stage = .stop → t.out = s.out ∧ t.own.leaving = s.own.leaving ∧ t.own.outstanding = s.own.outstanding) := by
  intro asked off
  have hexec : exec (.modeSet 4 m) s = .next (done [] (settle (panelOff off))) := by
    rw [exec_request h rfl, takeModeSet_held (b := .off) _ rfl, if_pos rfl]
    rfl
  have hoff : s.frost.stage ≠ .stop → panelOff off = giveUp (toClear off) := fun hs => if_neg hs
  have hstop : s.frost.stage = .stop → panelOff off = off := fun hs => if_pos hs
  have hidle : s.frost.stage ≠ .stop → SamePlace (giveUp (toClear off)) (done [] (settle (giveUp (toClear off)))) := fun hs => by
    refine (settle_place_idle ⟨?_, ?_⟩).trans (done_place _) <;> rw [giveUp_frost] <;> simp [toClear]
  refine ⟨fun hs => by rw [hexec, hoff hs], fun hs => by rw [hexec, hstop hs], _, hexec, fun hs ht => ?_,
    fun e hs ht hn he hj hc => ?_, fun hs => ?_⟩
  · rw [hoff hs]
    obtain ⟨hout, hleaving, houtstanding⟩ := hidle hs
    have hgive := giveUp_take (s := toClear off) ht
    rw [hout, hleaving, houtstanding, hgive]
    exact ⟨rfl, rfl, rfl, rfl⟩
  · rw [hoff hs]
    obtain ⟨hout, hleaving, _⟩ := hidle hs
    have hgive := giveUp_entry_sendable (s := toClear off) ht hn he ⟨hj, hc⟩
    rw [hout, hleaving, hgive]
    exact ⟨rfl, rfl⟩
  · rw [hstop hs]
    obtain ⟨hout, hleaving, houtstanding⟩ := (settle_place_idle (s := off) ⟨by rw [show off.frost.stage = .stop from hs]; decide,
      fun hr => by rw [show off.frost.stage = .stop from hs] at hr; cases hr⟩).trans (done_place _)
    exact ⟨hout, hleaving, houtstanding⟩

theorem placeCommands_holds : placeCommands :=
  ⟨fun _ hp hr ht hw => reTakeWaitEnds_asks hp hr ht hw, fun _ hp ht hs => stopTimer_gives hp ht hs,
    fun _ hp ht hs => clearTimer_gives hp ht hs, fun _ _ _ hp hr hf hc he => receiveError_place hp hr hf hc he,
    fun _ hp hon hw hc => lineStuck_place hp hon hw hc, fun _ _ h => modeOff_place h⟩

/-! ### A lockout (R122) -/

/-- A lockout with an own entry that may be left. -/
theorem lockout_entry {s : State} {e : Entry} (he : ownEntry s = some e) (hg : sendable s) :
    (lockout s).out = { s.out with give := true, take := false } ∧
    (lockout s).own = { s.own with leaving := some e.serial, outstanding := s.own.outstanding && !s.out.take } := by
  have hgive := requestGive_sendable (s := { s with own := { s.own with leaving := some e.serial } }) hg.1 hg.2
  cases ht : s.out.take <;> simp [lockout, he, hgive, ht]

theorem lockout_noEntry {s : State} (he : ownEntry s = none) :
    (lockout s).out = { s.out with take := false } ∧
    (lockout s).own = { s.own with outstanding := s.own.outstanding && !s.out.take } := by
  cases ht : s.out.take
  · have hout : { s.out with take := false } = s.out := by rw [← ht]
    simp [lockout, he, ht, hout]
  · simp [lockout, he, ht]

theorem requestGive_take (s : State) : (requestGive s).out.take = s.out.take := by
  unfold requestGive
  split <;> rfl

/-- After a lockout no TAKE is pending. -/
theorem lockout_take (s : State) : (lockout s).out.take = false ∧ (s.out.take = true → (lockout s).own.outstanding = false) := by
  have hcases : ∃ u : State, u.out.take = s.out.take ∧ lockout s = raise .queueLockout { (if u.out.take then
      { u with out := { u.out with take := false }, own := { u.own with outstanding := false } } else u) with
        queue := Queue.toRebuild (if u.out.take then
          { u with out := { u.out with take := false }, own := { u.own with outstanding := false } } else u).queue } := by
    refine ⟨match ownEntry s with
      | some e => requestGive { s with own := { s.own with leaving := some e.serial } }
      | none => s, ?_, rfl⟩
    split
    · exact requestGive_take _
    · rfl
  obtain ⟨u, hu, hlockout⟩ := hcases
  rw [hlockout, ← hu]
  cases ht : u.out.take
  · exact ⟨ht, fun h => absurd h (by decide)⟩
  · exact ⟨rfl, fun _ => rfl⟩

theorem lockout_placeless {s : State} (hn : s.line.sending = none) : placeless (lockout s) := by
  have hqueue : (lockout s).queue = s.queue.toRebuild := by rw [lockout_eq, raise_queue]
  have hline : (lockout s).line = s.line := by rw [lockout_eq, raise_line]
  refine ⟨?_, (lockout_take s).1, ?_, .inl (by rw [hqueue]; rfl)⟩
  · rw [ownEntry, hqueue]
    rfl
  · rw [sendingTake, sendingKind, hline, hn]
    rfl

theorem lockoutGivesUp_holds : lockoutGivesUp := by
  intro s j v hp hr ho hq h1 h2
  have hfar : takeBand s.join.terms s.queue.n v = .far := takeBand_far_iff.mpr ⟨by omega, h1, h2⟩
  have hexec : exec (.takeTaken j v) s = .next (settle (lockout (heard j s))) := by
    rw [exec_taken (deliver := queueTake j v) rfl hp hr ho, queueTake_far (by simpa using hq) (by simpa using hfar)]
  have hnone : (heard j s).line.sending = none := by
    have h := hr
    simp only [canReceive, Bool.and_eq_true, Option.isNone_iff_eq_none] at h
    rw [heard_line]
    exact h.2
  have hkept := settle_place_placeless (lockout_placeless hnone)
  have hentry : ownEntry (heard j s) = ownEntry s := ownEntry_congr (heard_queue j s) (heard_join j s)
  have hqueue : (settle (lockout (heard j s))).queue = s.queue.toRebuild := by
    rw [settle_queue, lockout_eq, raise_queue, heard_queue]
  obtain ⟨htake, hout⟩ := lockout_take (heard j s)
  refine ⟨_, hexec, by rw [hqueue]; rfl, by rw [hqueue]; rfl, ?_, fun ht => ⟨?_, ?_⟩, fun e he hj hc => ?_, fun he => ?_⟩
  · refine settle_keeps _ _ ?_
    rw [lockout_eq]
    exact raise_raised _ _
  · rw [hkept.out, htake]
  · rw [hkept.outstanding, hout (by rw [heard_out]; exact ht)]
  · have hsendable : sendable (heard j s) := by
      refine ⟨by rw [heard_join]; exact hj, ?_⟩
      rw [heard_line]
      dsimp only
      split
      · exact .inl rfl
      · exact hc
    obtain ⟨lout, lown⟩ := lockout_entry (hentry.trans he) hsendable
    rw [hkept.out, hkept.leaving, lout, lown]
    exact ⟨rfl, rfl⟩
  · obtain ⟨lout, lown⟩ := lockout_noEntry (hentry.trans he)
    rw [hkept.out, hkept.leaving, lout, lown, heard_out, heard_own]
    exact ⟨rfl, rfl⟩

/-! ### A place that no stage wants (R108) -/

/-- The state in which the own TAKE, completed in a SYNCED copy, is seen by the frost guard. -/
def ownEntered (own : Station) (s : State) : State :=
  { queueTake own s.queue.n (ownHeard own s) with
    own := { (queueTake own s.queue.n (ownHeard own s)).own with outstanding := false } }

theorem queueTake_appends {s : State} {j : Station} (hq : s.queue.state = .synced) (he : entryOf s.queue j = none) :
    queueTake j s.queue.n s = { s with queue := s.queue.accept j s.queue.n } := by
  have h0 : serialDistance s.queue.n s.queue.n = 0 := serialDistance_self _
  have hnew : ¬ (1 ≤ serialDistance s.queue.n s.queue.n ∨ (entryOf s.queue j).isSome = true) := by simp [h0, he]
  rw [queueTake_near (by rw [hq]; decide) (by rw [Ne, takeBand_far_iff]; omega),
    takeNear_near (by rw [h0]; exact Nat.zero_le _), if_neg hnew]

theorem ownEntered_frame {s : State} (own : Station) (hq : s.queue.state = .synced) (hn : ownNumber s = some own)
    (he : ownEntry s = none) : (ownEntered own s).out = s.out ∧ (ownEntered own s).own.leaving = s.own.leaving ∧
    (ownEntered own s).frost = s.frost ∧ (ownEntered own s).join = s.join ∧
    (ownEntered own s).line = (ownHeard own s).line ∧
    ownEntry (ownEntered own s) = some { station := own, serial := s.queue.n, shadow := none, hold := 0 } := by
  have hout : (ownHeard own s).out = s.out := heard_out own _
  have hown : (ownHeard own s).own = s.own := heard_own own _
  have hfrost : (ownHeard own s).frost = s.frost := heard_frost own _
  have hjoin := ownHeard_join own s
  have hqueue := ownHeard_queue own s
  unfold ownEntered
  generalize ownHeard own s = y at *
  rw [ownEntry_eq hn, ← hqueue] at he
  rw [← hqueue, queueTake_appends (by rw [hqueue]; exact hq) he]
  refine ⟨hout, by rw [← hown], hfrost, hjoin, rfl, ?_⟩
  rw [ownEntry_eq (own := own) (by simpa [ownNumber, hjoin] using hn)]
  exact accept_entryOf _ _ _

theorem entryAppeared_unwanted {s : State} {e : Entry} (he : ownEntry s = some e) (hg : s.out.give = false) (h : frostIdle s) :
    entryAppeared s = giveUp s := by
  obtain ⟨hs, hb⟩ := h
  refine if_pos ?_
  by_cases hr : s.frost.stage = .reduce
  · simp [he, hg, hr, hb hr]
  · simp [he, hg, hs, hr]

theorem entryAppeared_giving {s : State} (hg : s.out.give = true) : entryAppeared s = s := if_neg (by simp [hg])

theorem unwantedPlaceGivenUp_holds : unwantedPlaceGivenUp := by
  intro s own f hp hn hf hcontent hq he ht hstage
  have hexec : exec .ownFrameComplete s = .next (settle (entryAppeared (ownEntered own s))) := by
    have h : exec .ownFrameComplete s = .next (deliverOwn own f (ownHeard own s)) :=
      (live_running hp _).trans (congrArg _ (completeFrame_own hn hf))
    rw [h, deliverOwn_settles_other own (by simp [hcontent]), ownDelivered, hcontent]
    rfl
  obtain ⟨hout, hleaving, hfrost, hjoin, hline, hentry⟩ := ownEntered_frame own hq hn he
  have hidle : frostIdle (ownEntered own s) := by
    unfold frostIdle
    rw [hfrost]
    rcases hstage with h | h | h | ⟨h, hb⟩
    · exact ⟨by rw [h]; decide, fun hr => absurd (h.symm.trans hr) (by decide)⟩
    · exact ⟨by rw [h]; decide, fun hr => absurd (h.symm.trans hr) (by decide)⟩
    · exact ⟨by rw [h]; decide, fun hr => absurd (h.symm.trans hr) (by decide)⟩
    · exact ⟨by rw [h]; decide, fun _ => hb⟩
  have hidle' : frostIdle (entryAppeared (ownEntered own s)) := by
    unfold frostIdle
    rw [entryAppeared_frost]
    exact hidle
  obtain ⟨kout, kleaving, _⟩ := settle_place_idle hidle'
  have hnotake : (ownEntered own s).out.take = false := by rw [hout]; exact ht
  have hnotsending : sendingTake (ownEntered own s) = false := by
    rw [sendingTake, sendingKind, hline, ownHeard_line]
    rfl
  refine ⟨_, hexec, ?_, ?_, fun hg hj hc => ?_, fun hg hm => ?_, fun hg => ?_⟩
  · rw [ownEntry_congr (s := ownEntered own s) (by rw [settle_queue, entryAppeared_queue]) (by rw [settle_join, entryAppeared_join]),
      hentry]
    rfl
  · rw [settle_frost (frostAtRest_of hidle'.1 hidle'.2), entryAppeared_frost, hfrost]
  · have hsendable : sendable (ownEntered own s) := by
      refine ⟨by rw [hjoin]; exact hj, ?_⟩
      rw [hline, ownHeard_line]
      dsimp only
      split
      · exact .inl rfl
      · exact hc
    rw [kout, kleaving, entryAppeared_unwanted hentry (by rw [hout]; exact hg) hidle,
      giveUp_entry_sendable hnotake hnotsending hentry hsendable]
    exact ⟨rfl, rfl⟩
  · have hmute : mute (ownEntered own s) := by
      unfold mute
      rw [hline, ownHeard_line]
      rcases hm with hm | hm <;> simp [hm]
    rw [kout, kleaving, entryAppeared_unwanted hentry (by rw [hout]; exact hg) hidle,
      giveUp_entry_mute hnotake hnotsending hentry hmute]
    exact ⟨by rw [hout]; exact hg, rfl⟩
  · rw [kout, kleaving, entryAppeared_giving (by rw [hout]; exact hg), hout, hleaving]
    exact ⟨hg, rfl⟩

/-- Settles O26. -/
theorem grantsHoldsAndOwnPlace : Obligations.GrantsHoldsAndOwnPlace :=
  ⟨fun s h => ⟨granted_count h, rfl, fun hq j => by
      rw [← Bool.not_eq_true, granted_iff]
      exact fun hg => hg.1 hq⟩,
    fun s j hp => ⟨fun e he hs => shadowRemoval_holds hp he hs, holdExpiry_holds hp⟩, placeRequests_holds, placeCommands_holds,
    lockoutGivesUp_holds, grantsFormed_holds, unwantedPlaceGivenUp_holds⟩

end Sys2Proof.Machine
end

section
/-! SUPPORT. What the events of elapsed time leave of the clock and of the restart wait: nothing but the clock's own advance and
slew move the time (R166, R169). -/

namespace Sys2Proof.Machine

-- One proof after the other, so that the check of the whole text stays within its limit of threads.
set_option Elab.async false

/-- The time, its slew and the wait for a restart stand as they stood. -/
structure OnTime (s u : State) : Prop where
  time : u.clock.time = s.clock.time := by rfl
  sub : u.clock.sub = s.clock.sub := by rfl
  slew : u.clock.slew = s.clock.slew := by rfl
  withhold : u.clock.withhold = s.clock.withhold := by rfl
  wait : u.panel.restartWait = s.panel.restartWait := by rfl

theorem OnTime.refl (s : State) : OnTime s s := {}

theorem OnTime.trans {s u v : State} (h : OnTime s u) (k : OnTime u v) : OnTime s v where
  time := k.time.trans h.time
  sub := k.sub.trans h.sub
  slew := k.slew.trans h.slew
  withhold := k.withhold.trans h.withhold
  wait := k.wait.trans h.wait

theorem OnTime.of_frame {s u : State} (hc : u.clock = s.clock) (hp : u.panel = s.panel) : OnTime s u where
  time := by rw [hc]
  sub := by rw [hc]
  slew := by rw [hc]
  withhold := by rw [hc]
  wait := by rw [hp]

theorem OnTime.settle {s u : State} (h : OnTime s u) : OnTime s (Machine.settle u) :=
  h.trans (.of_frame (settle_clock u) (settle_panel u))

theorem OnTime.foldl {α : Type} {f : State → α → State} (h : ∀ s a, OnTime s (f s a)) (l : List α) (s : State) :
    OnTime s (l.foldl f s) := by
  induction l generalizing s with
  | nil => exact .refl s
  | cons a l ih => exact (h s a).trans (ih _)

theorem OnTime.due {s : State} {due : State → Bool} {event : State → State} (h : OnTime s (event s)) :
    OnTime s (whenDue due event s) := by
  unfold whenDue
  split
  · exact h
  · exact .refl s

/-- The scope of an idle step, which ends writes and accounting minutes. -/
def idleScope : Scope := { record := true, used := true }

theorem Free.onTime {s u : State} (h : Free idleScope s u) : OnTime s u := .of_frame h.clock h.panel

/-! ### The line, the tick and the record -/

theorem line_onTime (s : State) (l : Line) : OnTime s { s with line := l } := {}

theorem beginFrame_onTime (own : Station) (w : Wanted) (c : Content) (s : State) : OnTime s (beginFrame own w c s) := {}

theorem slotStarts_onTime (s : State) : OnTime s (slotStarts s) := by
  unfold slotStarts
  split
  · split
    · split
      · exact beginFrame_onTime _ _ _ s
      · exact ((line_onTime s _).trans (decline_free _ _).onTime).settle
    · exact .refl s
  · exact .refl s

theorem runLine_onTime (s : State) : OnTime s (runLine s) :=
  runLine_keeps (P := OnTime s) (fun _ _ h => h.trans (.of_frame rfl rfl)) (fun _ h => h.trans (slotStarts_onTime _)) (.refl s)

theorem endWrite_onTime (s : State) : OnTime s (endWrite s) := by
  unfold endWrite
  split <;> exact .of_frame rfl rfl

theorem sendReply_onTime (k : ReplyKind) (data : List Byte) (s : State) : OnTime s (sendReply k data s) := {}

theorem answerAck_onTime (b : Byte) (s : State) : OnTime s (answerAck b s) := by
  unfold answerAck
  split
  · exact sendReply_onTime _ _ s
  · rename_i d _
    have hack : Free idleScope s (setFilter s d { filterOf s d with notice := false }) := setFilter_free s d _ fun _ => rfl
    exact hack.onTime.settle.trans (sendReply_onTime _ _ _)

theorem answerReset_onTime (b : Byte) (s : State) : OnTime s (answerReset b s) := by
  unfold answerReset
  split
  · exact sendReply_onTime _ _ s
  · exact (resetFilter_free rfl _ s).onTime.settle.trans (sendReply_onTime _ _ _)

theorem takeRestore_onTime (s : State) : OnTime s (takeRestore s) := by
  unfold takeRestore
  split
  · refine (restoreRecord_free rfl s).onTime.settle.trans ?_
    unfold answerDeferred
    split
    · exact .refl _
    · exact .refl _
    · exact answerAck_onTime _ _
    · exact answerReset_onTime _ _
  · exact .refl s

/-! ### The mode and the fans -/

theorem endBoost_onTime (s : State) : OnTime s (endBoost s) := by
  unfold endBoost
  split
  · exact OnTime.settle {}
  · exact .refl s

theorem setFan_onTime (s : State) (d : Side) (f : Fan) : OnTime s (setFan s d f) := .of_frame (setFan_clock s d f) (setFan_panel s d f)

theorem stallFan_onTime (d : Side) (s : State) : OnTime s (stallFan d s) :=
  ((setFan_onTime s d _).trans (raise_free _ _).onTime).settle

theorem endKick_onTime (d : Side) (s : State) : OnTime s (endKick d s) := by
  unfold endKick
  split
  · split
    · exact (setFan_onTime s d _).settle
    · exact stallFan_onTime d s
  · exact .refl s

theorem stepLoop_onTime (d : Side) (s : State) : OnTime s (stepLoop d s) := by
  unfold stepLoop
  split
  · refine (setFan_onTime s d (fanOf s d).loopStep).trans ?_
    cases d <;> exact {}
  · exact .refl s

theorem endStallWindow_onTime (d : Side) (s : State) : OnTime s (endStallWindow d s) := by
  unfold endStallWindow
  split
  · exact stallFan_onTime d s
  · exact .refl s

theorem endRestartWait_onTime (d : Side) (s : State) : OnTime s (endRestartWait d s) := by
  unfold endRestartWait
  split
  · split
    · exact (setFan_onTime s d _).settle
    · exact ((setFan_onTime s d _).trans (raise_free _ _).onTime).settle
  · exact .refl s

theorem reachRunningTime_onTime (d : Side) (s : State) : OnTime s (reachRunningTime d s) := by
  unfold reachRunningTime
  split
  · exact setFan_onTime s d _
  · exact .refl s

/-! ### The round tick -/

theorem depart_onTime (j : Station) (s : State) : OnTime s (depart j s) := by
  have hpanel : (depart j s).panel = s.panel := by simp [depart, formSource]
  have hclock := depart_clock j s
  exact { time := by rw [hclock]
          sub := by rw [hclock]
          slew := by rw [hclock]
          withhold := by rw [hclock]
          wait := by rw [hpanel] }

theorem peersTick_onTime (s : State) : OnTime s (peersTick s) := by
  rw [peersTick_eq, agedState_eq]
  exact OnTime.trans {} (.foldl (fun t j => depart_onTime j t) _ _)

theorem queueTick_onTime (tick : Nat) (s : State) : OnTime s (queueTick tick s) := {}

theorem stackTick_onTime (s : State) : OnTime s (stackTick s) := by
  unfold stackTick
  exact .of_frame (by rw [evaluate_clock]) (by rw [evaluate_panel])

theorem joinTick_onTime (s : State) : OnTime s (joinTick s) := by
  unfold joinTick
  split
  · exact .refl s
  · split
    · obtain ⟨_, _, _, _, _, hclock, _, hpanel⟩ := endListen_frame s
      exact .of_frame hclock hpanel
    · exact {}
  · obtain ⟨_, _, hclock, _⟩ := evaluateSkew_rest s
    exact .of_frame hclock (evaluateSkew_panel s)

theorem takeRoundTick_onTime (s : State) : OnTime s (takeRoundTick s) := by
  unfold takeRoundTick
  split
  · dsimp only
    exact ((peersTick_onTime s).trans ((queueTick_onTime _ _).trans ((stackTick_onTime _).trans (joinTick_onTime _)))).settle
  · exact .refl s

/-! ### The frost guard, the holds, the filters and the indicator -/

theorem endClear_onTime (s : State) : OnTime s (endClear s) := by
  unfold endClear
  split
  · split
    · exact OnTime.settle {}
    · have hwatch : OnTime s (toWatch s) := {}
      exact (hwatch.trans (giveUp_free _).onTime).settle
    · exact .refl s
    · exact .refl s
    · exact .refl s
  · exact .refl s

theorem endStop_onTime (s : State) : OnTime s (endStop s) := by
  unfold endStop
  split
  · exact (toStop_free s).onTime.settle
  · exact .refl s

theorem endStep_onTime (s : State) : OnTime s (endStep s) := by
  unfold endStep
  split
  · exact (frostStepTimer_free s).onTime.settle
  · exact .refl s

theorem endThawTimer_onTime (s : State) : OnTime s (endThawTimer s) := by
  unfold endThawTimer
  split
  · exact (endThaw_free s).onTime.settle
  · exact .refl s

theorem endReTake_onTime (s : State) : OnTime s (endReTake s) := by
  unfold endReTake
  split
  · exact OnTime.settle {}
  · exact .refl s

theorem takeHoldExpiry_onTime (j : Station) (s : State) : OnTime s (takeHoldExpiry j s) := by
  unfold takeHoldExpiry
  split
  · obtain ⟨_, _, _, _, _, hclock, _, hpanel, _⟩ := (expireHold_only j s).frame
    exact (OnTime.of_frame hclock hpanel).settle
  · exact .refl s

theorem runHolds_onTime (s : State) : OnTime s (runHolds s) := .foldl (fun t j => takeHoldExpiry_onTime j t) _ s

theorem takeAccountingMinute_onTime (s : State) : OnTime s (takeAccountingMinute s) := by
  unfold takeAccountingMinute
  split
  · exact (accountMinute_free rfl s).onTime.settle
  · exact .refl s

theorem toggleBlink_onTime (s : State) : OnTime s (toggleBlink s) := by
  unfold toggleBlink
  split
  · exact {}
  · exact .refl s

end Sys2Proof.Machine
end

section
/-! SUPPORT. An idle step told in commands: the statement O4. -/

namespace Sys2Proof.Machine

-- One proof after the other, so that the check of the whole text stays within its limit of threads.
set_option Elab.async false

/-! ### Commands taken in turn -/

theorem takes_one {c : Instr} {f : State → State} {s : State} (hc : exec c s = live s f) (hp : s.power = .running) :
    takes s [c] = f s := by
  have hnext : exec c s = .next (f s) := hc.trans (live_running hp f)
  simp only [takes, List.foldl_cons, List.foldl_nil, hnext]

theorem takes_nil (s : State) : takes s [] = s := rfl

theorem takes_cons (s : State) (c : Instr) (l : List Instr) : takes s (c :: l) = takes (takes s [c]) l := rfl

/-- The commands that a timer brings, taken by a running station, are the event of elapsed time; it moves no time. -/
structure Brings (due : State → List Instr) (event : State → State) : Prop where
  taken : ∀ s, s.power = .running → takes s (due s) = event s
  power : ∀ s, s.power = .running → (event s).power = .running
  onTime : ∀ s, s.panel.restartWait = none → OnTime s (event s)

theorem Brings.foldl_taken {dues : List (State → List Instr)} {events : List (State → State)}
    (h : List.Forall₂ Brings dues events) {s : State} (hp : s.power = .running) :
    dues.foldl (fun t due => takes t (due t)) s = events.foldl (fun t event => event t) s := by
  induction h generalizing s with
  | nil => rfl
  | cons hfirst _ ih => rw [List.foldl_cons, List.foldl_cons, hfirst.taken s hp, ih (hfirst.power s hp)]

theorem Brings.foldl_onTime {dues : List (State → List Instr)} {events : List (State → State)}
    (h : List.Forall₂ Brings dues events) {s : State} (hw : s.panel.restartWait = none) :
    OnTime s (events.foldl (fun t event => event t) s) := by
  induction h generalizing s with
  | nil => exact .refl s
  | cons hfirst _ ih =>
    have hstep := hfirst.onTime s hw
    exact hstep.trans (ih (hstep.wait.trans hw))

/-- A timer that brings one command at its end. -/
theorem brings_due {P : State → Prop} [DecidablePred P] {due : State → Bool} {c : Instr} {f : State → State}
    (hc : ∀ s, exec c s = live s f) (hdue : ∀ s, due s = true ↔ P s) (hevent : ∀ s, Event idleScope s (f s))
    (htime : ∀ s, OnTime s (f s)) : Brings (fun s => if P s then [c] else []) (whenDue due f) where
  taken s hp := by
    unfold whenDue
    by_cases h : P s
    · rw [if_pos h, if_pos ((hdue s).mpr h), takes_one (hc s) hp]
    · rw [if_neg h, if_neg fun hd => h ((hdue s).mp hd), takes_nil]
  power s hp := ((Event.refl idleScope s).due fun _ => hevent s).frame.power.trans hp
  onTime s _ := .due (htime s)

theorem atEnd_iff (t : Timer) : atEnd t = true ↔ t = some 0 := by simp [atEnd]

/-! ### Each timer -/

/-- The events of one fan's timers, in order. -/
def fanEvents (d : Side) : List (State → State) :=
  [whenDue (fun s => (fanOf s d).state = .starting && atEnd (fanOf s d).stateTimer) (endKick d),
   whenDue (fun s => atEnd (fanOf s d).loopTimer) (stepLoop d),
   whenDue (fun s => atEnd (fanOf s d).stallWindow) (endStallWindow d),
   whenDue (fun s => (fanOf s d).state = .stalled && atEnd (fanOf s d).stateTimer) (endRestartWait d),
   whenDue (fun s => (fanOf s d).runTime = runTicks) (reachRunningTime d)]

theorem fan_brings (d : Side) : List.Forall₂ Brings (fanBrings d) (fanEvents d) := by
  refine .cons ?kick (.cons ?loop (.cons ?stall (.cons ?wait (.cons ?minute .nil))))
  case kick =>
    exact brings_due (fun _ => rfl) (fun s => by simp [atEnd_iff]) (endKick_event d) (endKick_onTime d)
  case loop => exact brings_due (fun _ => rfl) (fun s => atEnd_iff _) (stepLoop_event d) (stepLoop_onTime d)
  case stall => exact brings_due (fun _ => rfl) (fun s => atEnd_iff _) (endStallWindow_event d) (endStallWindow_onTime d)
  case wait =>
    exact brings_due (fun _ => rfl) (fun s => by simp [atEnd_iff]) (endRestartWait_event d) (endRestartWait_onTime d)
  case minute => exact brings_due (fun _ => rfl) (fun s => decide_eq_true_iff) (reachRunningTime_event d) (reachRunningTime_onTime d)

/-- The entries at their hold limit bring their expiries, each in the state that the one before it left. -/
theorem holds_bring : Brings (fun s => (s.queue.entries.filter (fun e => decide (s.join.terms.holdLimit * 64 ≤ e.hold))).map
    (fun e => .holdExpiry e.station)) runHolds where
  taken s hp := by
    have hlist : ∀ (l : List Entry) (u : State), u.power = .running →
        takes u (l.map fun e => .holdExpiry e.station) = (l.map Entry.station).foldl (fun t j => takeHoldExpiry j t) u := by
      intro l
      induction l with
      | nil => exact fun _ _ => rfl
      | cons e l ih =>
        intro u hu
        rw [List.map_cons, List.map_cons, List.foldl_cons, takes_cons, takes_one (f := takeHoldExpiry e.station) rfl hu]
        exact ih _ ((takeHoldExpiry_event (m := idleScope) e.station u).frame.power.trans hu)
    exact hlist _ s hp
  power s hp := (runHolds_event (m := idleScope) s).frame.power.trans hp
  onTime s _ := runHolds_onTime s

theorem restart_brings : Brings (fun s => if s.panel.restartWait = some 0 then [.restartWaitExpires] else [])
    (whenDue (fun s => atEnd s.panel.restartWait) endPanelWait) where
  taken s hp := by
    unfold whenDue
    by_cases h : s.panel.restartWait = some 0
    · rw [if_pos h, if_pos ((atEnd_iff _).mpr h), takes_one (f := endPanelWait) rfl hp]
    · rw [if_neg h, if_neg fun hd => h ((atEnd_iff _).mp hd), takes_nil]
  power s hp := ((Event.refl idleScope s).due fun _ => endPanelWait_event hp).frame.power.trans hp
  onTime s hw := by
    have hsame : whenDue (fun s => atEnd s.panel.restartWait) endPanelWait s = s := if_neg (by simp [hw, atEnd])
    rw [hsame]
    exact .refl s

/-- The events of all timers, in the model's order (log 3). -/
def timerEvents : List (State → State) :=
  [whenDue (fun s => atEnd s.mode.boost) endBoost] ++ fanEvents .supply ++ fanEvents .extract ++
  [whenDue (fun s => atEnd s.peers.roundTimer) takeRoundTick,
   whenDue (fun s => atEnd s.frost.clearTimer) endClear,
   whenDue (fun s => atEnd s.frost.stopTimer) endStop,
   whenDue (fun s => atEnd s.frost.stepTimer) endStep,
   whenDue (fun s => atEnd s.frost.thawTimer) endThawTimer,
   whenDue (fun s => atEnd s.frost.reTake) endReTake,
   runHolds,
   whenDue (fun s => atEnd s.filters.minuteTimer) takeAccountingMinute,
   whenDue (fun s => atEnd s.lamp.timer) toggleBlink,
   whenDue (fun s => atEnd s.panel.restartWait) endPanelWait]

theorem timers_bring : List.Forall₂ Brings timersBring timerEvents := by
  have hboost : Brings (fun s => if s.mode.boost = some 0 then [.boostExpires] else [])
      (whenDue (fun s => atEnd s.mode.boost) endBoost) :=
    brings_due (fun _ => rfl) (fun s => atEnd_iff _) endBoost_event endBoost_onTime
  refine List.rel_append (List.rel_append (List.rel_append (.cons hboost .nil) (fan_brings .supply)) (fan_brings .extract)) ?_
  refine .cons ?round (.cons ?clear (.cons ?stop (.cons ?step (.cons ?thaw (.cons ?reTake (.cons holds_bring
    (.cons ?account (.cons ?blink (.cons restart_brings .nil)))))))))
  case round => exact brings_due (fun _ => rfl) (fun s => atEnd_iff _) takeRoundTick_event takeRoundTick_onTime
  case clear => exact brings_due (fun _ => rfl) (fun s => atEnd_iff _) endClear_event endClear_onTime
  case stop => exact brings_due (fun _ => rfl) (fun s => atEnd_iff _) endStop_event endStop_onTime
  case step => exact brings_due (fun _ => rfl) (fun s => atEnd_iff _) endStep_event endStep_onTime
  case thaw => exact brings_due (fun _ => rfl) (fun s => atEnd_iff _) endThawTimer_event endThawTimer_onTime
  case reTake => exact brings_due (fun _ => rfl) (fun s => atEnd_iff _) endReTake_event endReTake_onTime
  case account =>
    exact brings_due (fun _ => rfl) (fun s => atEnd_iff _) (takeAccountingMinute_event rfl) takeAccountingMinute_onTime
  case blink => exact brings_due (fun _ => rfl) (fun s => atEnd_iff _) toggleBlink_event toggleBlink_onTime

/-! ### The clock's part -/

theorem ticked_eq (s : State) : ticked s = elapse s := rfl

/-- The tick up to the clock: bit times, timers, a write's end, the restore. -/
def tickBegun (s : State) : State := takeRestore (endWrite (elapse (runLine s)))

theorem passTick_eq (s : State) : passTick s = timerEvents.foldl (fun t event => event t) (runClock (tickBegun s)) := by
  simp only [passTick, runFan, runFrost, timerEvents, fanEvents, tickBegun, List.cons_append, List.nil_append, List.foldl_cons,
    List.foldl_nil]

theorem tickBegun_event (s : State) : Event idleScope s (tickBegun s) :=
  (runLine_event s).trans ((elapse_event _).trans ((endWrite_event rfl _).trans (takeRestore_event rfl _)))

theorem elapse_onTime {s : State} (h : s.panel.restartWait = none) : OnTime s (elapse s) where
  wait := by
    show tickDown s.panel.restartWait = _
    rw [h]
    rfl

theorem tickBegun_onTime {s : State} (h : s.panel.restartWait = none) : OnTime s (tickBegun s) := by
  have hline := runLine_onTime s
  exact hline.trans ((elapse_onTime (hline.wait.trans h)).trans ((endWrite_onTime _).trans (takeRestore_onTime _)))

theorem tickBegun_eq {s : State} (hp : s.power = .running) : takes (ticked (runLine s)) [.nvWriteEnds, .nvRestore] = tickBegun s := by
  have helapsed : (elapse (runLine s)).power = .running :=
    ((runLine_event (m := idleScope) s).trans (elapse_event _)).frame.power.trans hp
  have hwritten : (endWrite (elapse (runLine s))).power = .running :=
    (endWrite_event (m := idleScope) rfl _).frame.power.trans helapsed
  rw [ticked_eq, takes_cons, takes_one (f := endWrite) rfl helapsed, takes_one (f := takeRestore) rfl hwritten, tickBegun]

theorem clockTicked_eq {s : State} (hp : s.power = .running) :
    clockTicked s = if minuteDue s then settle (enterMinute s) else oscillate s := by
  unfold clockTicked
  by_cases hdue : minuteDue s = true
  · rw [if_pos ((minuteDue_iff s).mp hdue), if_pos hdue, takes_one (f := takeMinuteEntered) rfl hp, takeMinuteEntered, if_pos hdue]
  · rw [if_neg fun h => hdue ((minuteDue_iff s).mpr h), if_neg hdue]
    by_cases hw : s.clock.withhold = 0
    · have hadvance : oscillate s = advanceClock s := if_pos hw
      rw [hadvance, advanceClock]
      by_cases hs : s.clock.sub < 63
      · rw [if_pos ⟨hw, hs⟩, if_pos hs]
      · have hm : ¬ (s.clock.time + 1) % 60 = 0 := fun hm => hdue ((minuteDue_iff s).mpr ⟨hw, by omega, hm⟩)
        rw [if_neg fun h => hs h.2, if_pos hw, if_neg hs, if_neg hm]
    · rw [if_neg fun h => hw h.1, if_neg hw, oscillate, if_neg hw]

theorem runClock_slewed {s : State} (hp : s.power = .running) :
    (if (clockTicked s).clock.second = 0 ∧ (clockTicked s).clock.slew ≠ 0 then takes (clockTicked s) [.slewSecond]
      else clockTicked s) = runClock s := by
  have hpower : (clockTicked s).power = .running := by
    rw [clockTicked_eq hp]
    split
    · exact (enterMinute_moves (m := idleScope) s).settle.frame.power.trans hp
    · exact (oscillate_event (m := idleScope) (Bool.not_eq_true _ ▸ ‹¬ minuteDue s = true›)).frame.power.trans hp
  have hslew : takes (clockTicked s) [.slewSecond] = settle (slewOnce (clockTicked s)) :=
    takes_one (f := fun s => settle (slewOnce s)) rfl hpower
  rw [hslew]
  unfold runClock
  rw [← clockTicked_eq hp]
  generalize clockTicked s = u
  simp only [Bool.and_eq_true, decide_eq_true_eq]

theorem runClock_unslewed {s u : State} (hu : (if minuteDue s then settle (enterMinute s) else oscillate s) = u)
    (hslew : u.clock.slew = 0) : runClock s = u := by
  subst hu
  exact if_neg (by simp [hslew])

/-- With no slew running the clock advances by one tick, past the end of the week into 0 (R166). -/
theorem runClock_advances {s : State} (hruled : s.clock.time < 604800) (hslew : s.clock.slew = 0) (hw : s.clock.withhold = 0) :
    (runClock s).clock = { s.clock with
      sub := if s.clock.sub < 63 then s.clock.sub + 1 else 0
      time := if s.clock.sub < 63 then s.clock.time else (s.clock.time + 1) % 604800 } ∧
    (runClock s).panel = s.panel := by
  by_cases hdue : minuteDue s = true
  · obtain ⟨_, hs, hm⟩ := (minuteDue_iff s).mp hdue
    have hclock : (settle (enterMinute s)).clock = (entered s).clock := by
      rw [settle_clock, enterMinute_eq hm, evaluateMinute_clock]
    rw [runClock_unslewed (if_pos hdue) (by rw [hclock]; exact hslew), hclock, if_neg (by omega), if_neg (by omega), settle_panel,
      enterMinute_eq hm, (evaluateMinute_free (m := idleScope) _).panel]
    exact ⟨rfl, rfl⟩
  · have hadvance : (if minuteDue s then settle (enterMinute s) else oscillate s) = advanceClock s :=
      (if_neg hdue).trans (if_pos hw)
    by_cases hs : s.clock.sub < 63
    · rw [runClock_unslewed (hadvance.trans (if_pos hs)) hslew, if_pos hs, if_pos hs]
      exact ⟨rfl, rfl⟩
    · have hm : ¬ (s.clock.time + 1) % 60 = 0 := fun hm => hdue ((minuteDue_iff s).mpr ⟨hw, by omega, hm⟩)
      have hweek : (s.clock.time + 1) % 604800 = s.clock.time + 1 := Nat.mod_eq_of_lt (by omega)
      rw [runClock_unslewed (hadvance.trans ((if_neg hs).trans (if_neg hm))) hslew, if_neg hs, if_neg hs, hweek]
      exact ⟨rfl, rfl⟩

/-! ### The step -/

theorem step_idle {s : State} (h : s.pending = []) : step s = live s passTick := by
  unfold step
  rw [h]

theorem passTick_advances {s : State} (hruled : s.clock.time < 604800) (hslew : s.clock.slew = 0) (hw : s.clock.withhold = 0)
    (hwait : s.panel.restartWait = none) :
    (passTick s).clock.sub = (if s.clock.sub < 63 then s.clock.sub + 1 else 0) ∧
    (passTick s).clock.time = (if s.clock.sub < 63 then s.clock.time else (s.clock.time + 1) % 604800) := by
  have hbegun := tickBegun_onTime hwait
  obtain ⟨hclock, hpanel⟩ := runClock_advances (s := tickBegun s) (by rw [hbegun.time]; exact hruled)
    (by rw [hbegun.slew]; exact hslew) (by rw [hbegun.withhold]; exact hw)
  have hevents : OnTime (runClock (tickBegun s)) (passTick s) := by
    rw [passTick_eq]
    exact Brings.foldl_onTime timers_bring (by rw [hpanel, hbegun.wait]; exact hwait)
  rw [hevents.sub, hevents.time, hclock, hbegun.sub, hbegun.time]
  exact ⟨rfl, rfl⟩

/-- Settles O4: each event of elapsed time is its command's meaning, and the clock advances once. -/
theorem idleStepRunsTheClock : Obligations.IdleStepRunsTheClock := by
  intro s hidle
  refine ⟨fun hp => ?_, fun hp => ?_, ⟨rfl, rfl, rfl⟩, fun hp hruled hslew hw hwait => ?_⟩
  · rw [step_idle hidle, live, if_neg hp]
  · intro timed slewed
    have hbegun : (tickBegun s).power = .running := (tickBegun_event s).frame.power.trans hp
    have hslewed : slewed = runClock (tickBegun s) := by
      rw [← runClock_slewed hbegun, ← tickBegun_eq hp]
    have hclocked : (runClock (tickBegun s)).power = .running :=
      (runClock_event (m := idleScope) _).frame.power.trans hbegun
    rw [step_idle hidle, live_running hp, passTick_eq, hslewed, Brings.foldl_taken timers_bring hclocked]
  · exact ⟨passTick s, (step_idle hidle).trans (live_running hp _), passTick_advances hruled.1 hslew hw hwait⟩

end Sys2Proof.Machine
end
